-- ==== Sys2Proof/Word.lean ====
section
/-! DEFINITION. The plain types every other file uses: bytes, strings of bytes, the slice of one or
two bytes a conversion reads, the byte order, and exact rational values (spec/00_scope.md R8, R9). -/

namespace Sys2Proof

/-- A `u8` (R9). -/
abbrev Byte := BitVec 8

/-- `Str` of R9: a finite sequence of bytes. -/
abbrev Str := List Byte

/-- The bytes of a quoted ASCII string of the spec (R9). -/
def ascii (s : String) : Str := s.toList.map fun c => BitVec.ofNat 8 c.toNat

/-- `byteCount` of a register definition: 1 or 2 (R30, R64). -/
inductive ByteCount where
  | one
  | two
deriving DecidableEq, Repr

/-- The number of bytes a `byteCount` names. -/
def ByteCount.toNat : ByteCount → Nat
  | .one => 1
  | .two => 2

/-- A slice `s` of exactly `n` bytes with `n` 1 or 2 (R170): no other length can be written. -/
inductive Slice where
  | one (s0 : Byte)
  | two (s0 s1 : Byte)
deriving DecidableEq, Repr

/-- The byte-order flag cnvflg (R63): 0 little-endian, 1 big-endian. -/
inductive ByteOrder where
  | little
  | big
deriving DecidableEq, Repr

/-- An exact rational value `num / den` (`Rat` of R9), kept as the numerator and the positive
denominator the conversion rules write; it need not be in lowest terms. -/
structure Exact where
  num : Int
  den : Nat
deriving DecidableEq, Repr

/-- The exact value of an integer. -/
def Exact.ofInt (n : Int) : Exact := ⟨n, 1⟩

/-- The bit pattern of an IEEE 754 binary64 value (R218; 93_implementation_defined.md G5). -/
abbrev Binary64 := BitVec 64

end Sys2Proof
end

