-- ==== Sys2Proof/Config.lean ====
section
/-! DEFINITION. What the spec fixes as named constants (spec/93_implementation_defined.md U1, U2),
the implementation parameters of spec/00_scope.md R6 as plain data, their spec defaults, and the
two values no source gives, as constants without a body. -/

namespace Sys2Proof.Config

/-- Lead byte of a request frame (R101). -/
def requestLead : Byte := 0x03
/-- The protocol marker (R105). -/
def marker : Byte := 0x40
/-- First byte of the error pair (R104). -/
def errorFirst : Byte := 0x15
/-- Second byte of the error pair (R104). -/
def errorSecond : Byte := 0xEA
/-- Length of the minimal header (R143). -/
def headerLength : Nat := 3
/-- The constant 2 of the length rule `N + 2` (R103; U1). -/
def lengthBias : Nat := 2
/-- `payloadOffset()`, also called `PAYLOAD_BASE` (R148). -/
def payloadBase : Nat := 3
/-- The least length of a decodable frame (R281). -/
def minDecodable : Nat := 6
/-- `BUF_CAP`, the frame buffer capacity in bytes (R6, R26). -/
def bufCap : Nat := 257
/-- The raw value whose tenth is the sentinel −3276.8 of codes 107 and 108 (R172, R184). -/
def sentinelRaw : Int := -32768

/-- The divisor of the codes scaled by 1/256 (R108). -/
def scale256 : Nat := 256
/-- The divisor of the codes scaled by 0.1 (R108). -/
def scaleTenth : Nat := 10
/-- The size of each alphabet of code 204 (R217). -/
abbrev alphabetSize : Nat := 16
/-- The size of the operating-mode name table (R216). -/
abbrev modeCount : Nat := 19
/-- The receive timeout of the reference system in milliseconds (R6, R242). -/
def timeoutMs : BitVec 32 := 300

/-- `F312_FORM` (R6, R206): how the two fields of code 312 combine. -/
inductive F312Form where
  /-- `mag = (m + l) / 16`. -/
  | sum
  /-- `mag = m + l / 16`. -/
  | intFrac
deriving DecidableEq, Repr

/-- The implementation parameters of R6 that are plain data. They are fixed before reset (R332) and
never change during a run. `PT_EVAL` is a function and stands below; `BUF_CAP` is the constant
`bufCap`; `NDEF` is the number of entries of the configuration table; `DISP_CAP` is unbounded in
the model (R6, D33). -/
structure Params where
  /-- `T_TIMEOUT`, a `u32` in milliseconds. -/
  tTimeout : BitVec 32
  /-- `P_ERR_IN_SYNC`. -/
  pErrInSync : Bool
  /-- `F312_FORM`. -/
  f312Form : F312Form
  /-- `ALPHA_HI`, 16 characters (R217). -/
  alphaHi : Vector Byte alphabetSize
  /-- `ALPHA_LO`, 16 characters (R217). -/
  alphaLo : Vector Byte alphabetSize
  /-- `MODE_NAMES`, 19 strings (R216). -/
  modeNames : Vector Str modeCount
deriving DecidableEq, Repr

/-- The spec default of `ALPHA_HI`: `" ACEHFJLPU987654"` (R217, G2). -/
def defaultAlphaHi : Vector Byte alphabetSize :=
  #v[0x20, 0x41, 0x43, 0x45, 0x48, 0x46, 0x4A, 0x4C, 0x50, 0x55, 0x39, 0x38, 0x37, 0x36, 0x35, 0x34]

/-- The spec default of `ALPHA_LO`: `"0123456789AHCJEF"` (R217, G2). -/
def defaultAlphaLo : Vector Byte alphabetSize :=
  #v[0x30, 0x31, 0x32, 0x33, 0x34, 0x35, 0x36, 0x37, 0x38, 0x39, 0x41, 0x48, 0x43, 0x4A, 0x45, 0x46]

/-- The spec default of `MODE_NAMES` (R216, G3). -/
def defaultModeNames : Vector Str modeCount :=
  #v[ascii "Fan Only", ascii "Heating", ascii "Cooling", ascii "Auto", ascii "Ventilation",
     ascii "Auto Cool", ascii "Auto Heat", ascii "Dry", ascii "Aux.", ascii "Cooling Storage",
     ascii "Heating Storage", ascii "UseStrdThrm(cl)1", ascii "UseStrdThrm(cl)2",
     ascii "UseStrdThrm(cl)3", ascii "UseStrdThrm(cl)4", ascii "UseStrdThrm(ht)1",
     ascii "UseStrdThrm(ht)2", ascii "UseStrdThrm(ht)3", ascii "UseStrdThrm(ht)4"]

/-- The value this hardware takes for each parameter that has one, and the spec default of each
OPEN one (R6). -/
def defaultParams : Params where
  tTimeout := timeoutMs
  pErrInSync := false
  f312Form := .sum
  alphaHi := defaultAlphaHi
  alphaLo := defaultAlphaLo
  modeNames := defaultModeNames

/-- `PT_EVAL`, the pressure-to-temperature curve (R218): nothing is assumed of it but that it is a
function of its argument. A FREE VALUE (log entry 1). -/
opaque ptEval : Binary64 → Binary64

/-- The string that a non-finite result of `PT_EVAL` renders to (R218: "any string (a draw)"). It may
depend on everything `convert` may read (R170): the code, the slice and the curve's result. A FREE
VALUE (log entry 2). -/
opaque nonFiniteText : BitVec 16 → Slice → Binary64 → Str

end Sys2Proof.Config
end

