-- ==== Sys2Proof/Syntax.lean ====
section
/-! DEFINITION. The instructions: one constructor for each row of spec/opcode_table.json, the two
encoding spaces their words live in, and the register definition record. -/

namespace Sys2Proof

/-- One constructor per row of the opcode table. The first six are the command words of
spec/30_encoding.md R112 and R113 (format CMD10); the others are the conversion codes of R107 to
R109 (format CONV16), each the rule of the Value Conversion Table that DECODE applies to the slice
of a definition with that code. -/
inductive Instr where
  /-- One step of the receive state machine (R241). -/
  | step
  /-- Send a request for `reg` and start a receive attempt (R150). -/
  | request (reg : Byte)
  /-- Run the register decode engine (R280). -/
  | decode
  /-- Reserved: kind `11`, any data (R113). -/
  | reservedK3 (data : Byte)
  /-- Reserved: kind `00` with data that is not zero (R113). -/
  | reservedStepData (data : Byte)
  /-- Reserved: kind `10` with data that is not zero (R113). -/
  | reservedDecodeData (data : Byte)
  /-- Code 0: no conversion (R176). -/
  | conv0
  /-- Code 100: ASCII (R177). -/
  | conv100
  /-- Code 101: signed, little-endian, unscaled (R178). -/
  | conv101
  /-- Code 102: signed, big-endian, unscaled (R179). -/
  | conv102
  /-- Code 103: signed, little-endian, divided by 256 (R180). -/
  | conv103
  /-- Code 104: signed, big-endian, divided by 256 (R181). -/
  | conv104
  /-- Code 105: signed, little-endian, times 0.1 (R182). -/
  | conv105
  /-- Code 106: signed, big-endian, times 0.1 (R183). -/
  | conv106
  /-- Code 107: signed, little-endian, times 0.1 with sentinel (R184). -/
  | conv107
  /-- Code 108: signed, big-endian, times 0.1 with sentinel (R185). -/
  | conv108
  /-- Code 151: unsigned, little-endian, unscaled (R186). -/
  | conv151
  /-- Code 152: unsigned, big-endian, unscaled (R187). -/
  | conv152
  /-- Code 153: unsigned, little-endian, divided by 256 (R188). -/
  | conv153
  /-- Code 154: unsigned, big-endian, divided by 256 (R189). -/
  | conv154
  /-- Code 155: unsigned, little-endian, times 0.1 (R190). -/
  | conv155
  /-- Code 156: unsigned, big-endian, times 0.1 (R191). -/
  | conv156
  /-- Code 200: boolean (R192). -/
  | conv200
  /-- Code 203: status enum (R193). -/
  | conv203
  /-- Code 204: two-nibble symbol (R194). -/
  | conv204
  /-- Code 201: operating mode (R195). -/
  | conv201
  /-- Code 217: operating mode (R196). -/
  | conv217
  /-- Code 211: off or number (R197). -/
  | conv211
  /-- Code 300: flag, bit 0 (R198). -/
  | conv300
  /-- Code 301: flag, bit 1 (R199). -/
  | conv301
  /-- Code 302: flag, bit 2 (R200). -/
  | conv302
  /-- Code 303: flag, bit 3 (R201). -/
  | conv303
  /-- Code 304: flag, bit 4 (R202). -/
  | conv304
  /-- Code 305: flag, bit 5 (R203). -/
  | conv305
  /-- Code 306: flag, bit 6 (R204). -/
  | conv306
  /-- Code 307: flag, bit 7 (R205). -/
  | conv307
  /-- Code 312: sign-magnitude nibble fixed point (R206). -/
  | conv312
  /-- Code 315: high-nibble enum (modes) (R207). -/
  | conv315
  /-- Code 316: high-nibble enum (systems) (R208). -/
  | conv316
  /-- Code 401: curve of the value of code 101 (R209). -/
  | conv401
  /-- Code 402: curve of the value of code 102 (R210). -/
  | conv402
  /-- Code 403: curve of the value of code 103 (R211). -/
  | conv403
  /-- Code 404: curve of the value of code 104 (R212). -/
  | conv404
  /-- Code 405: curve of the value of code 105 (R213). -/
  | conv405
  /-- Code 406: curve of the value of code 106 (R214). -/
  | conv406
  /-- Every code that no other row assigns: the diagnostic string (R215). -/
  | convOther (code : BitVec 16)
deriving DecidableEq, Repr

/-- The two word formats of the opcode table. -/
inductive Format where
  /-- A 10-bit command word (R112). -/
  | cmd10
  /-- A 16-bit conversion code (R107). -/
  | conv16
deriving DecidableEq, Repr

/-- The width in bits of a word of a format. -/
def Format.width : Format → Nat
  | .cmd10 => 10
  | .conv16 => 16

/-- An instruction word in its own encoding space. The two spaces overlap as numbers, so a word
carries which of them it belongs to (R107, R112). -/
inductive InstrWord where
  | command (w : BitVec 10)
  | conversion (code : BitVec 16)
deriving DecidableEq, Repr

/-- The format of a word. -/
def InstrWord.format : InstrWord → Format
  | .command _ => .cmd10
  | .conversion _ => .conv16

/-- A register definition: one `CFG` entry (spec/10_state.md R30, spec/30_encoding.md R110). `label`
is the opaque identity the host keeps beside the entry; no rule reads it. -/
structure RegDef where
  mode : Byte
  registryID : Byte
  offset : Byte
  byteCount : ByteCount
  conversionCode : BitVec 16
  label : Str
deriving DecidableEq, Repr

/-- A configuration record as the host presents it at boot: the packed 48-bit word of R110 and the
label kept beside it. -/
structure ConfigRecord where
  word : BitVec 48
  label : Str
deriving DecidableEq, Repr

end Sys2Proof
end

