-- ==== Sys2Proof/WellFormed.lean ====
section
/-! DEFINITION. When an instruction, a configuration record and a set of parameters are well formed. -/

namespace Sys2Proof

/-- The 39 assigned conversion codes, in the order of spec/30_encoding.md R107. -/
def assignedCodes : List Nat :=
  [0, 100] ++ [101, 102, 103, 104, 105, 106, 107, 108] ++ [151, 152, 153, 154, 155, 156]
    ++ [200, 203, 204, 201, 217, 211] ++ [300, 301, 302, 303, 304, 305, 306, 307]
    ++ [312, 315, 316] ++ [401, 402, 403, 404, 405, 406]

/-- Whether a code is one of the assigned codes (R107). -/
def isAssigned (code : BitVec 16) : Bool := assignedCodes.contains code.toNat

/-- An instruction is well formed when its operands are ones its row of the opcode table admits: the
reserved STEP and DECODE rows apply only where the data is not zero (R113), and the row of the other
codes only where no row assigns the code (R109). -/
def Instr.wf : Instr → Bool
  | .reservedStepData data => data != 0
  | .reservedDecodeData data => data != 0
  | .convOther code => !isAssigned code
  | _ => true

/-- A configuration record is well formed iff its reserved bits [31:25] are zero (R111). -/
def ConfigRecord.wf (r : ConfigRecord) : Bool := r.word.extractLsb' 25 7 == 0

/-- A configuration is well formed iff every record is (R111). -/
def configWf (rs : List ConfigRecord) : Bool := rs.all ConfigRecord.wf

/-- The two characters of the alphabets that the document fixes: `ALPHA_HI[1] = 'A'` and
`ALPHA_LO[0] = '0'` (R217). -/
def Config.Params.wf (p : Config.Params) : Bool := p.alphaHi[1] == 0x41 && p.alphaLo[0] == 0x30

end Sys2Proof
end

