-- ==== Sys2Proof/Decode.lean ====
section
/-! DEFINITION. The decoders of the two encoding spaces, the encoder beside them, the packed
configuration record, and the host's probe `decodeTableWord` (spec/30_encoding.md). -/

namespace Sys2Proof

/-- The rows of R108 with a code of their own: code and instruction. -/
def conversionRows : List (Nat × Instr) :=
  List.flatten
    [[(0, .conv0), (100, .conv100)],
     [(101, .conv101), (102, .conv102), (103, .conv103), (104, .conv104), (105, .conv105), (106, .conv106), (107, .conv107), (108, .conv108)],
     [(151, .conv151), (152, .conv152), (153, .conv153), (154, .conv154), (155, .conv155), (156, .conv156)],
     [(200, .conv200), (203, .conv203), (204, .conv204), (201, .conv201), (217, .conv217), (211, .conv211)],
     [(300, .conv300), (301, .conv301), (302, .conv302), (303, .conv303), (304, .conv304), (305, .conv305), (306, .conv306), (307, .conv307)],
     [(312, .conv312), (315, .conv315), (316, .conv316)],
     [(401, .conv401), (402, .conv402), (403, .conv403), (404, .conv404), (405, .conv405), (406, .conv406)]]

/-- A conversion code selects the row that assigns it, and the diagnostic row where none does (R109). -/
def decodeConversion (code : BitVec 16) : Instr :=
  match conversionRows.find? fun row => row.1 == code.toNat with
  | some row => row.2
  | none => .convOther code

/-- A command word: kind in bits [9:8], data in bits [7:0] (R112, R113). -/
def decodeCommand (w : BitVec 10) : Instr :=
  let kind := w.extractLsb' 8 2
  let data := w.extractLsb' 0 8
  if kind = 0b00#2 then
    if data = 0 then .step else .reservedStepData data
  else if kind = 0b01#2 then
    .request data
  else if kind = 0b10#2 then
    if data = 0 then .decode else .reservedDecodeData data
  else
    .reservedK3 data

/-- The decoder. Every word of both spaces has a meaning (R109, R113), so it refuses none. -/
def decode : InstrWord → Instr
  | .command w => decodeCommand w
  | .conversion code => decodeConversion code

/-- Why a number is no word of a format. -/
inductive DecodeError where
  /-- The number needs more bits than the format has (R114: no longer form of any word exists). -/
  | wordTooWide (format : Format) (w : Nat)
deriving DecidableEq, Repr

/-- Decode a number as a word of a format, refusing by name a number the format has no bits for. -/
def decodeRaw (format : Format) (w : Nat) : Except DecodeError Instr :=
  if w < 2 ^ format.width then
    match format with
    | .cmd10 => .ok (decode (.command (BitVec.ofNat 10 w)))
    | .conv16 => .ok (decode (.conversion (BitVec.ofNat 16 w)))
  else
    .error (.wordTooWide format w)

/-- The word of an instruction (R112, R113, R108). -/
def encode : Instr → InstrWord
  | .step => .command 0x000
  | .request reg => .command (0b01#2 ++ reg)
  | .decode => .command 0x200
  | .reservedK3 data => .command (0b11#2 ++ data)
  | .reservedStepData data => .command (0b00#2 ++ data)
  | .reservedDecodeData data => .command (0b10#2 ++ data)
  | .conv0 => .conversion 0
  | .conv100 => .conversion 100
  | .conv101 => .conversion 101
  | .conv102 => .conversion 102
  | .conv103 => .conversion 103
  | .conv104 => .conversion 104
  | .conv105 => .conversion 105
  | .conv106 => .conversion 106
  | .conv107 => .conversion 107
  | .conv108 => .conversion 108
  | .conv151 => .conversion 151
  | .conv152 => .conversion 152
  | .conv153 => .conversion 153
  | .conv154 => .conversion 154
  | .conv155 => .conversion 155
  | .conv156 => .conversion 156
  | .conv200 => .conversion 200
  | .conv203 => .conversion 203
  | .conv204 => .conversion 204
  | .conv201 => .conversion 201
  | .conv217 => .conversion 217
  | .conv211 => .conversion 211
  | .conv300 => .conversion 300
  | .conv301 => .conversion 301
  | .conv302 => .conversion 302
  | .conv303 => .conversion 303
  | .conv304 => .conversion 304
  | .conv305 => .conversion 305
  | .conv306 => .conversion 306
  | .conv307 => .conversion 307
  | .conv312 => .conversion 312
  | .conv315 => .conversion 315
  | .conv316 => .conversion 316
  | .conv401 => .conversion 401
  | .conv402 => .conversion 402
  | .conv403 => .conversion 403
  | .conv404 => .conversion 404
  | .conv405 => .conversion 405
  | .conv406 => .conversion 406
  | .convOther code => .conversion code

/-- Unpack a configuration record (R110); a record whose reserved bits are not zero has no meaning
(R111). -/
def RegDef.unpack (r : ConfigRecord) : Option RegDef :=
  if r.wf then
    some { mode := r.word.extractLsb' 0 8
           registryID := r.word.extractLsb' 8 8
           offset := r.word.extractLsb' 16 8
           byteCount := if r.word.extractLsb' 24 1 = 1#1 then .two else .one
           conversionCode := r.word.extractLsb' 32 16
           label := r.label }
  else
    none

/-- Bit [24] of the packed record: `byteCount - 1` (R110). -/
def ByteCount.bit : ByteCount → BitVec 1
  | .one => 0
  | .two => 1

/-- Pack a register definition (R110). -/
def RegDef.pack (d : RegDef) : ConfigRecord :=
  { word := d.conversionCode ++ 0#7 ++ d.byteCount.bit ++ d.offset ++ d.registryID ++ d.mode
    label := d.label }

/-- The word that a number of `nbits` bits from the opcode table stands for. A table row of fewer than
16 bits is a command word. At 16 bits the table's two formats cannot be told apart by the number
alone; the rows are then tried in this order: the rows without a field in table order (STEP, DECODE,
the assigned conversion codes), the command rows with a field, CONV_OTHER. DESIGN CHOICE (log
entry 3): the machine itself never meets this ambiguity, because every event of its input carries a
word of one of the two formats. -/
def tableWord (nbits w : Nat) : Option InstrWord :=
  if 2 ^ 16 ≤ w then none
  else if nbits < 16 then
    if w < 2 ^ 10 then some (.command (BitVec.ofNat 10 w)) else none
  else if w = 0x000 ∨ w = 0x200 then some (.command (BitVec.ofNat 10 w))
  else if isAssigned (BitVec.ofNat 16 w) then some (.conversion (BitVec.ofNat 16 w))
  else if w < 2 ^ 10 then some (.command (BitVec.ofNat 10 w))
  else some (.conversion (BitVec.ofNat 16 w))

/-- What the decoder reads from an instruction whose bits are `w`, numbered as the opcode table
numbers them. -/
def decodeTableWord (nbits w : Nat) : Option Instr := (tableWord nbits w).map decode

end Sys2Proof
end

