-- ==== Sys2Proof/Machine/State.lean ====
section
/-! DEFINITION. The state of the machine as plain data, why a step can stop, and the state after
reset (spec/10_state.md; INVENTORY.md, State). -/

namespace Sys2Proof.Machine

open Sys2Proof

/-- `st`, the receive state (R21). -/
inductive RxState where
  | idle
  | sync
  | hdr
  | pay
deriving DecidableEq, Repr

/-- `res`, the outcome of the last receive attempt (R22). `mismatch` is the reserved value 5, which no
rule writes (R250); the reserved values 6 and 7 have no name and no constructor. -/
inductive Res where
  | none
  | ok
  | badCksum
  | errorFrame
  | timedOut
  | mismatch
deriving DecidableEq, Repr

/-- `fcause`, the cause of the first refused command (R23). -/
inductive FCause where
  | none
  | busyRequest
  | busyDecode
  | reservedCmd
deriving DecidableEq, Repr

/-- A memory of bytes: the bytes that hold a value, each with its address, addresses strictly rising.
An address that is not listed holds NO VALUE (R36): reading it gives none, never a zero. -/
abbrev Memory := List Host.Cell

/-- What the host can read between two commands (R29, R31, R314). -/
inductive ReadPort where
  /-- The word `STATUS`. -/
  | status
  /-- The word `LEN`. -/
  | len
  /-- The word `TSTART`. -/
  | tstart
  /-- The frame buffer byte `FB[i]`. -/
  | fb (i : Nat)
  /-- The results of entry `i`: its label, `DISP[i]` and `TEXT[i]` (R288). -/
  | result (i : Nat)
deriving DecidableEq, Repr

/-- What a host read returned. -/
inductive HostWord where
  /-- Nothing has been read yet. -/
  | nothing
  | word16 (w : BitVec 16)
  | word32 (w : BitVec 32)
  | byte (b : Byte)
  | entry (label value : Str) (isText : Bool)
deriving DecidableEq, Repr

/-- One move of the machine's environment (R3, R342): a command of the host with its time value, an
append of the device to the receive queue, a reset, the boot, a host read; and a slice presented to
the Value Conversion Table with a conversion code (R170), the model's own way to run one row of the
table by itself (log entry 4). -/
inductive Event where
  /-- The host issues a command word with the time value `now` (R112). -/
  | command (w : BitVec 10) (now : BitVec 32)
  /-- The transport/device appends bytes to `rxq` (R115, line `RX`). -/
  | rx (bytes : List Byte)
  /-- The environment resets the block (R330). -/
  | reset
  /-- The parameters are fixed and the host loads the configuration table (R331, R332). -/
  | boot (params : Config.Params) (records : List ConfigRecord)
  /-- The host reads an output (R29). -/
  | read (port : ReadPort)
  /-- A slice is presented to the Value Conversion Table under a code (R170). -/
  | convert (code : BitVec 16) (s : Slice)
deriving DecidableEq, Repr

/-- The whole machine. First the state of the block (R21 to R31), then the environment state that
the commands act on (R32), then the model's own fields. -/
@[ext]
structure State where
  /-- `st` (R21). -/
  st : RxState
  /-- `res` (R22). -/
  res : Res
  /-- `fault` (R23). -/
  fault : Bool
  /-- `fcause` (R23). -/
  fcause : FCause
  /-- `req_reg` (R24). -/
  reqReg : Byte
  /-- `t_start` (R25). -/
  tStart : BitVec 32
  /-- `len`, the fill level of `FB`, 0 to 257 (R26). -/
  len : Nat
  /-- `FB`, the frame buffer (R26). -/
  fb : Memory
  /-- `prev15` (R27). -/
  prev15 : Bool
  /-- `CFG`, the register configuration table (R30); `NDEF` is its length. -/
  cfg : List RegDef
  /-- `DISP`, the display-value store (R31). -/
  disp : List Str
  /-- The parameters of the run (R6, R332). -/
  params : Config.Params
  /-- `rxq`, the receive queue, head first (R32). -/
  rxq : List Byte
  /-- `txs`, the transmit stream, oldest byte first (R32). -/
  txs : List Byte
  /-- `Now()`, the time value presented with the last command (R32). -/
  now : BitVec 32
  /-- MODEL'S OWN: the boot of R331 has been done, or a command has been issued, so that parameters
  and configuration are fixed (R37, R332). -/
  cfgFixed : Bool
  /-- MODEL'S OWN: the moves of the environment that are still to come, next first (R342). -/
  input : List Event
  /-- MODEL'S OWN: the slice on the operand port of the Value Conversion Table (R170). -/
  convIn : Slice
  /-- MODEL'S OWN: the string the Value Conversion Table last returned for that port (R170). -/
  convOut : Str
  /-- MODEL'S OWN: what the last host read returned (R29). -/
  hostOut : HostWord
deriving DecidableEq, Repr

/-- Why the machine stops with a fault. Every one is SAFE: the model stops where the spec gives no
value or no address, so nothing can be proved of what follows. -/
inductive Fault where
  /-- A read of a frame buffer byte that holds no value (R36, R341). Raised by a host read of `FB[i]`
  with `i ≥ len`; by STEP and DECODE only in states that no run reaches, where a byte below `len`
  was never written. Safe. -/
  | fbNoValue (i : Nat)
  /-- A write of the frame buffer at an index that does not exist (R60: 0 to 256). Raised by STEP, and
  only in states that no run reaches (R251). Safe. -/
  | fbOverflow (i : Nat)
  /-- A host read of an entry `i ≥ NDEF` of `DISP` or `TEXT`, which does not exist (R70). Safe. -/
  | noSuchEntry (i : Nat)
deriving DecidableEq, Repr

/-- Why the machine has no step for a move. Every one is SAFE: the spec admits no run with that move. -/
inductive Refusal where
  /-- An instruction without a meaning yet, by its mnemonic. Raised by `exec` only. Safe. -/
  | notModelled (mnemonic : String)
  /-- Boot with a configuration that is not well formed (R111, R331; 93_implementation_defined.md U6).
  Raised by the boot event. Safe. -/
  | illFormedConfig
  /-- Boot with alphabets that contradict the two characters the document fixes (R217). Raised by the
  boot event. Safe. -/
  | illFormedParams
  /-- A second boot, or a boot after the first command (R37, R337; 93_implementation_defined.md U20).
  Raised by the boot event. Safe. -/
  | configChanged
deriving DecidableEq, Repr

/-- The machine right after reset (R35, R330), before the boot of R331: no configuration is loaded,
and the environment has made no move. What the spec gives no reset value for is zero or empty
(log entries 5, 6, 7 and 8). -/
def State.reset : State where
  st := .idle
  res := .none
  fault := false
  fcause := .none
  reqReg := 0
  tStart := 0
  len := 0
  fb := []
  prev15 := false
  cfg := []
  disp := []
  params := Config.defaultParams
  rxq := []
  txs := []
  now := 0
  cfgFixed := false
  input := []
  convIn := .one 0
  convOut := []
  hostOut := .nothing

end Sys2Proof.Machine
end

