-- ==== Sys2Proof/Machine/Frame.lean ====
section
/-! DEFINITION. The CRC Engine and the Frame accessors (spec/40_crc_frame.md R140 to R149):
combinational functions of a byte sequence. -/

namespace Sys2Proof.Machine

open Sys2Proof

/-- The 8-bit accumulator of R140 after the bytes `b`, starting from `acc`. -/
def byteSum (acc : Byte) : List Byte → Byte
  | [] => acc
  | x :: b => byteSum (acc + x) b

/-- `checksum` (R140): the complement of the 8-bit sum. -/
def checksum (b : List Byte) : Byte := ~~~ byteSum 0 b

/-- `validate` (R141): the last byte is the checksum of all bytes before it. -/
def validate (f : List Byte) : Bool :=
  match f.getLast? with
  | some c => 2 ≤ f.length && checksum f.dropLast == c
  | none => false

/-- `hasMinimalHeader` (R143). -/
def hasMinimalHeader (f : List Byte) : Bool := Config.headerLength ≤ f.length

/-- `expectedLength` (R144): 0 below three bytes, else `f[2] + 2` as an integer, without wrap. -/
def expectedLength : List Byte → Nat
  | _ :: _ :: n :: _ => n.toNat + Config.lengthBias
  | _ => 0

/-- `isErrorFrame` (R145). -/
def isErrorFrame : List Byte → Bool
  | a :: b :: _ => a == Config.errorFirst && b == Config.errorSecond
  | _ => false

/-- `isValidProtocol` (R146). -/
def isValidProtocol : List Byte → Bool
  | a :: _ => a == Config.marker
  | [] => false

/-- `registryID` (R147): byte 1, or 0 where the frame is too short. -/
def registryID : List Byte → Byte
  | _ :: r :: _ => r
  | _ => 0

/-- `MakeRequest` (R149, R101). -/
def makeRequest (reg : Byte) : List Byte :=
  let b := [Config.requestLead, Config.marker, reg]
  b ++ [checksum b]

end Sys2Proof.Machine
end

