-- ==== Sys2Proof/Machine/Ops.lean ====
section
/-! DEFINITION. The named operations over memory, streams and status that the meanings are written
in: the frame buffer (spec/10_state.md R26, R36), the transport (spec/20_memory.md R67, R72), the
clock (R242), the fault record (R302) and the end of an attempt (R10). -/

namespace Sys2Proof.Machine

open Sys2Proof

/-- The canonical form of a memory: addresses strictly rising, and none outside `FB` (R60). No entry
can equal what an unlisted address reads as, since an unlisted address holds no value. -/
abbrev Memory.wf (m : Memory) : Prop :=
  m.Pairwise (fun c d => c.1 < d.1) ∧ ∀ c ∈ m, c.1 < Config.bufCap

/-- The byte at an address, if one is there. -/
def Memory.read : Memory → Nat → Option Byte
  | [], _ => none
  | (a, b) :: m, i => if a = i then some b else Memory.read m i

/-- Store a byte at an address, keeping addresses rising. -/
def Memory.write : Memory → Nat → Byte → Memory
  | [], i, v => [(i, v)]
  | (a, b) :: m, i, v =>
    if i < a then (i, v) :: (a, b) :: m
    else if i = a then (i, v) :: m
    else (a, b) :: Memory.write m i v

/-- Forget every byte at `n` or above. -/
def Memory.truncate (n : Nat) (m : Memory) : Memory := m.filter fun c => c.1 < n

/-- `FB[i]`: defined only for `i < len` (R10, R36). -/
def fbRead (s : State) (i : Nat) : Option Byte :=
  if i < s.len then Memory.read s.fb i else none

/-- `MemRead(FB, i, n)` (R10): the `n` bytes from index `i`, none if one of them holds no value. -/
def fbRange (s : State) (i : Nat) : Nat → Option (List Byte)
  | 0 => some []
  | n + 1 =>
    match fbRead s i, fbRange s (i + 1) n with
    | some b, some f => some (b :: f)
    | _, _ => none

/-- `FB[0..len)`: the frame held (R26). -/
def frame (s : State) : Option (List Byte) := fbRange s 0 s.len

/-! ### One field at a time -/

/-- `st <- x`. -/
def setSt (x : RxState) (s : State) : State := { s with st := x }

/-- `prev15 <- x`. -/
def setPrev15 (x : Bool) (s : State) : State := { s with prev15 := x }

/-- `DISP <- x`. -/
def setDisp (x : List Str) (s : State) : State := { s with disp := x }

/-- The receive queue after a removal. -/
def setRxq (x : List Byte) (s : State) : State := { s with rxq := x }

/-- The moves of the environment still to come. -/
def setInput (x : List Event) (s : State) : State := { s with input := x }

/-- The slice on the operand port of the Value Conversion Table. -/
def setConvIn (x : Slice) (s : State) : State := { s with convIn := x }

/-- The string on the result port of the Value Conversion Table. -/
def setConvOut (x : Str) (s : State) : State := { s with convOut := x }

/-- What the last host read returned. -/
def setHostOut (x : HostWord) (s : State) : State := { s with hostOut := x }

/-! ### The frame buffer, the streams and the status -/

/-- Run `k` on the frame held. A byte below `len` that holds no value, which no run reaches, is a
fault. -/
def withFrame (s : State) (k : List Byte → Host.Outcome State Fault Refusal) :
    Host.Outcome State Fault Refusal :=
  match frame s with
  | some f => k f
  | none => .fault (.fbNoValue s.len)

/-- `FB[i] <- v` (R10). -/
def fbStore (i : Nat) (v : Byte) (s : State) : State := { s with fb := Memory.write s.fb i v }

/-- `len <- n`: the bytes at `n` and above hold no value from now on (R26, R36). -/
def setLen (n : Nat) (s : State) : State := { s with len := n, fb := Memory.truncate n s.fb }

/-- `FB[len] <- b; len <- len + 1` (R241). -/
def appendByte (b : Byte) (s : State) : State :=
  { s with fb := Memory.write s.fb s.len b, len := s.len + 1 }

/-- Append a byte to the frame, then `k`. There is no index 257 to write (R60, R251). -/
def withAppended (b : Byte) (s : State) (k : State → Host.Outcome State Fault Refusal) :
    Host.Outcome State Fault Refusal :=
  if s.len < Config.bufCap then k (appendByte b s)
  else .fault (.fbOverflow s.len)

/-- `TxPut(b)` (R10): append a byte to the transmit stream. -/
def txPut (b : Byte) (s : State) : State := { s with txs := s.txs ++ [b] }

/-- `TxPut` of each byte in order. -/
def txPutAll : List Byte → State → State
  | [], s => s
  | b :: bs, s => txPutAll bs (txPut b s)

/-- `TxFlush()`: no effect on the block's state and none on `rxq` (R67, R74). -/
def txFlush (s : State) : State := s

/-- `RxPop()` guarded by `RxAvail()` (R10, R310): the head of the receive queue and the state without
it, none when the queue is empty. -/
def rxPop? (s : State) : Option (Byte × State) :=
  match s.rxq with
  | [] => none
  | b :: rest => some (b, setRxq rest s)

/-- The transport/device appends bytes at the tail of the receive queue (R72). -/
def rxAppend (bytes : List Byte) (s : State) : State := setRxq (s.rxq ++ bytes) s

/-- `(now - t_start) mod 2^32` (R242). -/
def elapsed (s : State) : BitVec 32 := s.now - s.tStart

/-- The deadline of the attempt is reached (R242). -/
def expired (s : State) : Bool := s.params.tTimeout.ule (elapsed s)

/-- `raise Fault(c)` (R10, R302), the one operation by which a command is refused: the first cause is
recorded and kept, and nothing else changes. The block has no trap to take and none to return from
(R300, R305, R306). -/
def raiseFault (c : FCause) (s : State) : State :=
  if s.fault then s else { s with fault := true, fcause := c }

/-- `finish(r)` (R10): the attempt ends with outcome `r`. -/
def finish (r : Res) (s : State) : State := { s with res := r, st := .idle }

/-- The Value Conversion Table answers with a string (R170), shown on the model's result port. -/
def convResult (out : Str) (s : State) : Host.Outcome State Fault Refusal :=
  .next (setConvOut out s)

end Sys2Proof.Machine
end

