-- ==== Sys2Proof/Machine/Command.lean ====
section
/-! DEFINITION. REQUEST (spec/40_crc_frame.md R150) and the reserved command words
(spec/30_encoding.md R113). -/

namespace Sys2Proof.Machine

open Sys2Proof

/-- The state of REQUEST after the four bytes are sent and flushed (R150). -/
def startAttempt (reg : Byte) (s : State) : State :=
  { setLen 0 s with reqReg := reg, prev15 := false, tStart := s.now, res := .none, st := .sync }

/-- REQUEST `reg` (R150). -/
def execRequest (reg : Byte) (s : State) : Host.Outcome State Fault Refusal :=
  if s.st ≠ .idle then .next (raiseFault .busyRequest s)
  else .next (startAttempt reg (txFlush (txPutAll (makeRequest reg) s)))

/-- RESERVED_K3: kind `11`, any data (R113). -/
def execReservedK3 (_data : Byte) (s : State) : Host.Outcome State Fault Refusal :=
  .next (raiseFault .reservedCmd s)

/-- RESERVED_STEP_DATA: a STEP word whose data is not zero (R113). -/
def execReservedStepData (_data : Byte) (s : State) : Host.Outcome State Fault Refusal :=
  .next (raiseFault .reservedCmd s)

/-- RESERVED_DECODE_DATA: a DECODE word whose data is not zero (R113). -/
def execReservedDecodeData (_data : Byte) (s : State) : Host.Outcome State Fault Refusal :=
  .next (raiseFault .reservedCmd s)

end Sys2Proof.Machine
end

