-- ==== Sys2Proof/Machine/Operands.lean ====
section
/-! DEFINITION. The operand forms: the raw reads of a slice, its single byte and the bit fields of
that byte, and the slice a definition selects from a frame (spec/41_conversion.md R171,
spec/43_decode.md R284). -/

namespace Sys2Proof.Machine

open Sys2Proof

/-- `u16(s, n, be)` (R171): one byte is zero-extended whatever the order; two bytes are read low byte
first or high byte first. -/
def u16 : Slice → ByteOrder → Nat
  | .one s0, _ => s0.toNat
  | .two s0 s1, .little => (s1 ++ s0).toNat
  | .two s0 s1, .big => (s0 ++ s1).toNat

/-- `s16(s, n, be)` (R171): one byte is sign-extended from bit 7; two bytes are the two's-complement
value of the 16-bit read. -/
def s16 : Slice → ByteOrder → Int
  | .one s0, _ => s0.toInt
  | .two s0 s1, .little => (s1 ++ s0).toInt
  | .two s0 s1, .big => (s0 ++ s1).toInt

/-- `s[0]`: the byte that the single-byte codes read, whatever `n` is (R192 to R208; D17). -/
def byte0 : Slice → Byte
  | .one s0 => s0
  | .two s0 _ => s0

/-- `s[0..n)`: the bytes of a slice in index order (R177). -/
def sliceBytes : Slice → Str
  | .one s0 => [s0]
  | .two s0 s1 => [s0, s1]

/-- `b[7:4]`. -/
def highNibble (b : Byte) : BitVec 4 := b.extractLsb' 4 4

/-- `b[3:0]`. -/
def lowNibble (b : Byte) : BitVec 4 := b.extractLsb' 0 4

/-- `MemRead(FB, idx, n)` on a held frame `f` (R284): none when `idx + n` is more than the length of
the frame, checksum byte included. -/
def sliceAt (f : Str) (idx : Nat) : ByteCount → Option Slice
  | .one =>
    match f[idx]? with
    | some s0 => some (.one s0)
    | none => none
  | .two =>
    match f[idx]?, f[idx + 1]? with
    | some s0, some s1 => some (.two s0 s1)
    | _, _ => none

end Sys2Proof.Machine
end

