-- ==== Sys2Proof/Machine/Render.lean ====
section
/-! DEFINITION. Numeric rendering (spec/41_conversion.md R173, R174): C's `%g` with precision 6,
applied to an exact value. -/

namespace Sys2Proof.Machine

open Sys2Proof

/-- The ASCII digit of a number below 10. -/
def digit (d : Nat) : Byte := BitVec.ofNat 8 (48 + d)

/-- Decimal digits of `n`, most significant first, given fuel for at least that many digits. -/
def decDigits : Nat → Nat → Str
  | 0, _ => []
  | fuel + 1, n => if n < 10 then [digit n] else decDigits fuel (n / 10) ++ [digit (n % 10)]

/-- `dec(n)` (R9): decimal spelling without leading zeros. -/
def dec (n : Nat) : Str := decDigits (n + 1) n

/-- Exactly the last `k` decimal digits of `n`. -/
def fixedDigits : Nat → Nat → Str
  | 0, _ => []
  | k + 1, n => fixedDigits k (n / 10) ++ [digit (n % 10)]

/-- `round_half_even(n / d)` (R173). -/
def roundHalfEven (n d : Nat) : Nat :=
  let q := n / d
  let r := n % d
  if 2 * r < d then q
  else if d < 2 * r then q + 1
  else q + q % 2

/-- The least `e' ≥ e` with `num < base^(e' - e + 1) * den`, within the fuel. -/
def logUp (base : Nat) : Nat → Nat → Nat → Nat → Nat
  | 0, _, _, e => e
  | fuel + 1, num, den, e => if num < base * den then e else logUp base fuel num (base * den) (e + 1)

/-- The least `k' ≥ k` with `den ≤ base^(k' - k) * num`, within the fuel. -/
def logDown (base : Nat) : Nat → Nat → Nat → Nat → Nat
  | 0, _, _, k => k
  | fuel + 1, num, den, k => if den ≤ num then k else logDown base fuel (base * num) den (k + 1)

/-- The integer `e` with `base^e ≤ num / den < base^(e+1)`, for `num` and `den` not zero and `base` at
least 2. -/
def floorLog (base num den : Nat) : Int :=
  if den ≤ num then (logUp base num num den 0 : Nat) else - (logDown base den num den 0 : Nat)

/-- `round_half_even(num / den * base^k)`. -/
def scaledRound (base num den : Nat) (k : Int) : Nat :=
  if 0 ≤ k then roundHalfEven (num * base ^ k.toNat) den
  else roundHalfEven num (den * base ^ (-k).toNat)

/-- `t` without its trailing `'0'` bytes. -/
def stripZeros (t : Str) : Str := (t.reverse.dropWhile fun c => c == digit 0).reverse

/-- `whole ++ "." ++ frac` without the zeros at the end of `frac` and without a point that nothing
follows (R173). -/
def withFraction (whole frac : Str) : Str :=
  match stripZeros frac with
  | [] => whole
  | f => whole ++ ascii "." ++ f

/-- Fixed notation (R173): `m` with `k` of its digits after the point. -/
def fixedForm (m k : Nat) : Str := withFraction (dec (m / 10 ^ k)) (fixedDigits k m)

/-- Exponential notation (R173): the first of the 6 digits of `m`, the others after the point, and the
exponent with its sign and at least two digits. -/
def expForm (m : Nat) (e : Int) : Str :=
  withFraction [digit (m / 100000)] (fixedDigits 5 m)
    ++ ascii "e" ++ (if e < 0 then ascii "-" else ascii "+")
    ++ (if e.natAbs < 10 then digit 0 :: dec e.natAbs else dec e.natAbs)

/-- The six significant digits and the decimal exponent of `num / den`, after rounding (R173). -/
def significand (num den : Nat) : Nat × Int :=
  let e := floorLog 10 num den
  let m := scaledRound 10 num den (5 - e)
  if m = 1000000 then (100000, e + 1) else (m, e)

/-- `render` of the magnitude `num / den`, not zero (R173). -/
def renderMagnitude (num den : Nat) : Str :=
  let m := (significand num den).1
  let e := (significand num den).2
  if -4 ≤ e ∧ e ≤ 5 then fixedForm m (5 - e).toNat else expForm m e

/-- `"-"` or nothing. -/
def signText (neg : Bool) : Str := if neg then ascii "-" else []

/-- `render` (R173). -/
def render (v : Exact) : Str :=
  if v.num = 0 then ascii "0"
  else signText (v.num < 0) ++ renderMagnitude v.num.natAbs v.den

/-- `render_sm` (R174): the sign bit is printed even before a zero. -/
def renderSm (sg : Bool) (mag : Exact) : Str := signText sg ++ render mag

end Sys2Proof.Machine
end

