-- ==== Sys2Proof/Machine/Binary64.lean ====
section
/-! DEFINITION. The binary64 values that go into and come out of the pressure-to-temperature curve
(spec/41_conversion.md R209 to R214, R218; spec/93_implementation_defined.md G5). -/

namespace Sys2Proof.Machine

open Sys2Proof

/-- The bit pattern, without the sign, of the binary64 value nearest to `num / den`, ties to even:
exponents from -1022 (below it, subnormal) up to 1023 (above it, infinity). -/
def flMagnitude (num den : Nat) : Nat :=
  if num = 0 then 0
  else
    let e := max (floorLog 2 num den) (-1022)
    min ((e + 1022).toNat * 2 ^ 52 + scaledRound 2 num den (52 - e)) (2047 * 2 ^ 52)

/-- `fl(v)`: the binary64 value nearest to an exact value (G5). -/
def fl (v : Exact) : Binary64 :=
  BitVec.ofBool (v.num < 0) ++ BitVec.ofNat 63 (flMagnitude v.num.natAbs v.den)

/-- The exact value of a finite binary64 value; none for an infinity or a NaN. -/
def binary64Value (x : Binary64) : Option Exact :=
  let biased := (x.extractLsb' 52 11).toNat
  let fraction := (x.extractLsb' 0 52).toNat
  let m := if biased = 0 then fraction else 2 ^ 52 + fraction
  let e : Int := (max biased 1 : Nat) - 1075
  let signed : Int := if x.getLsbD 63 then - (m : Int) else m
  if biased = 2047 then none
  else if 0 ≤ e then some ⟨signed * 2 ^ e.toNat, 1⟩
  else some ⟨signed, 2 ^ (-e).toNat⟩

/-- `fl(0.1)` (R213). -/
def flTenth : Binary64 := fl ⟨1, Config.scaleTenth⟩

/-- `fl(raw × fl(0.1))` (R213, R214; D41). -/
def flTimesTenth (raw : Int) : Binary64 :=
  match binary64Value flTenth with
  | some t => fl ⟨raw * t.num, t.den⟩
  | none => flTenth

/-- `render` of a curve result (R173, R218): a finite one as its exact value, any other as the free
string it is given. -/
def renderBinary64 (free : Str) (x : Binary64) : Str :=
  match binary64Value x with
  | some v => render v
  | none => free

end Sys2Proof.Machine
end

