-- ==== Sys2Proof/Machine/Convert.lean ====
section
/-! DEFINITION. The Value Conversion Table (spec/41_conversion.md): `convertNNN` is the string of code
NNN for a slice (R176 to R215), and `execConvNNN` the instruction of that row, which applies it to
the slice on the operand port and shows the string on the result port (log entry 4). DECODE applies
the same `convertNNN` through `convert`. -/

namespace Sys2Proof.Machine

open Sys2Proof

/-- `"ON"` for a set bit, `"OFF"` for a clear one (R198 to R205). -/
def onOff (b : Bool) : Str := if b then ascii "ON" else ascii "OFF"

/-- An entry of the operating-mode table, `"-"` for an index of 19 or more (R195). -/
def modeName (p : Config.Params) (b : Byte) : Str :=
  match p.modeNames[b.toNat]? with
  | some name => name
  | none => ascii "-"

/-- `render(PT_EVAL(x))` (R209 to R214), with the free string for a result that is not finite (R218). -/
def curve (code : BitVec 16) (s : Slice) (x : Binary64) : Str :=
  renderBinary64 (Config.nonFiniteText code s (Config.ptEval x)) (Config.ptEval x)

/-- Code 0: no conversion (R176). -/
def convert0 (_s : Slice) : Str := []

/-- Code 100: the bytes verbatim (R177). -/
def convert100 (s : Slice) : Str := sliceBytes s

/-- Code 101: signed, little-endian, unscaled (R178). -/
def convert101 (s : Slice) : Str := render (.ofInt (s16 s .little))

/-- Code 102: signed, big-endian, unscaled (R179). -/
def convert102 (s : Slice) : Str := render (.ofInt (s16 s .big))

/-- Code 103: signed, little-endian, divided by 256 (R180). -/
def convert103 (s : Slice) : Str := render ⟨s16 s .little, Config.scale256⟩

/-- Code 104: signed, big-endian, divided by 256 (R181). -/
def convert104 (s : Slice) : Str := render ⟨s16 s .big, Config.scale256⟩

/-- Code 105: signed, little-endian, multiplied by 0.1 (R182). -/
def convert105 (s : Slice) : Str := render ⟨s16 s .little, Config.scaleTenth⟩

/-- Code 106: signed, big-endian, multiplied by 0.1 (R183). -/
def convert106 (s : Slice) : Str := render ⟨s16 s .big, Config.scaleTenth⟩

/-- Code 107: signed, little-endian, multiplied by 0.1, with the sentinel (R184). -/
def convert107 (s : Slice) : Str :=
  if s16 s .little = Config.sentinelRaw then ascii "---" else render ⟨s16 s .little, Config.scaleTenth⟩

/-- Code 108: signed, big-endian, multiplied by 0.1, with the sentinel (R185). -/
def convert108 (s : Slice) : Str :=
  if s16 s .big = Config.sentinelRaw then ascii "---" else render ⟨s16 s .big, Config.scaleTenth⟩

/-- Code 151: unsigned, little-endian, unscaled (R186). -/
def convert151 (s : Slice) : Str := render (.ofInt (u16 s .little))

/-- Code 152: unsigned, big-endian, unscaled (R187). -/
def convert152 (s : Slice) : Str := render (.ofInt (u16 s .big))

/-- Code 153: unsigned, little-endian, divided by 256 (R188). -/
def convert153 (s : Slice) : Str := render ⟨u16 s .little, Config.scale256⟩

/-- Code 154: unsigned, big-endian, divided by 256 (R189). -/
def convert154 (s : Slice) : Str := render ⟨u16 s .big, Config.scale256⟩

/-- Code 155: unsigned, little-endian, multiplied by 0.1 (R190). -/
def convert155 (s : Slice) : Str := render ⟨u16 s .little, Config.scaleTenth⟩

/-- Code 156: unsigned, big-endian, multiplied by 0.1 (R191). -/
def convert156 (s : Slice) : Str := render ⟨u16 s .big, Config.scaleTenth⟩

/-- Code 200: boolean (R192). -/
def convert200 (s : Slice) : Str := if byte0 s = 0 then ascii "OFF" else ascii "ON"

/-- Code 203: status enum (R193). -/
def convert203 (s : Slice) : Str :=
  if byte0 s = 0 then ascii "Normal"
  else if byte0 s = 1 then ascii "Error"
  else if byte0 s = 2 then ascii "Warning"
  else if byte0 s = 3 then ascii "Caution"
  else ascii "-"

/-- Code 204: two-nibble symbol (R194). -/
def convert204 (p : Config.Params) (s : Slice) : Str :=
  [p.alphaHi[(highNibble (byte0 s)).toNat]'(highNibble (byte0 s)).isLt,
   p.alphaLo[(lowNibble (byte0 s)).toNat]'(lowNibble (byte0 s)).isLt]

/-- Code 201: operating mode (R195). -/
def convert201 (p : Config.Params) (s : Slice) : Str := modeName p (byte0 s)

/-- Code 217: operating mode (R196). -/
def convert217 (p : Config.Params) (s : Slice) : Str := modeName p (byte0 s)

/-- Code 211: off or number (R197). -/
def convert211 (s : Slice) : Str :=
  if byte0 s = 0 then ascii "OFF" else render (.ofInt (byte0 s).toNat)

/-- Code 300: bit 0 (R198). -/
def convert300 (s : Slice) : Str := onOff ((byte0 s).getLsbD 0)

/-- Code 301: bit 1 (R199). -/
def convert301 (s : Slice) : Str := onOff ((byte0 s).getLsbD 1)

/-- Code 302: bit 2 (R200). -/
def convert302 (s : Slice) : Str := onOff ((byte0 s).getLsbD 2)

/-- Code 303: bit 3 (R201). -/
def convert303 (s : Slice) : Str := onOff ((byte0 s).getLsbD 3)

/-- Code 304: bit 4 (R202). -/
def convert304 (s : Slice) : Str := onOff ((byte0 s).getLsbD 4)

/-- Code 305: bit 5 (R203). -/
def convert305 (s : Slice) : Str := onOff ((byte0 s).getLsbD 5)

/-- Code 306: bit 6 (R204). -/
def convert306 (s : Slice) : Str := onOff ((byte0 s).getLsbD 6)

/-- Code 307: bit 7 (R205). -/
def convert307 (s : Slice) : Str := onOff ((byte0 s).getLsbD 7)

/-- Code 312: sign-magnitude nibble fixed point (R206). -/
def convert312 (p : Config.Params) (s : Slice) : Str :=
  let b := byte0 s
  let m := (b.extractLsb' 4 3).toNat
  let l := (lowNibble b).toNat
  let mag : Exact :=
    match p.f312Form with
    | .sum => ⟨m + l, 16⟩
    | .intFrac => ⟨16 * m + l, 16⟩
  renderSm (b.getLsbD 7) mag

/-- Code 315: high-nibble enum (R207). -/
def convert315 (s : Slice) : Str :=
  let h := highNibble (byte0 s)
  if h = 0 then ascii "Stop"
  else if h = 1 then ascii "Heating"
  else if h = 2 then ascii "Cooling"
  else if h = 4 then ascii "DHW"
  else if h = 5 then ascii "Heating + DHW"
  else if h = 6 then ascii "Cooling + DHW"
  else ascii "-"

/-- Code 316: high-nibble enum (R208). -/
def convert316 (s : Slice) : Str :=
  let h := highNibble (byte0 s)
  if h = 0 then ascii "H/P only"
  else if h = 1 then ascii "Hybrid"
  else if h = 2 then ascii "Boiler only"
  else ascii "Unknown"

/-- Code 401: the curve of the value of code 101 (R209). -/
def convert401 (s : Slice) : Str := curve 401 s (fl (.ofInt (s16 s .little)))

/-- Code 402: the curve of the value of code 102 (R210). -/
def convert402 (s : Slice) : Str := curve 402 s (fl (.ofInt (s16 s .big)))

/-- Code 403: the curve of the value of code 103 (R211). -/
def convert403 (s : Slice) : Str := curve 403 s (fl ⟨s16 s .little, Config.scale256⟩)

/-- Code 404: the curve of the value of code 104 (R212). -/
def convert404 (s : Slice) : Str := curve 404 s (fl ⟨s16 s .big, Config.scale256⟩)

/-- Code 405: the curve of the value of code 105 (R213). -/
def convert405 (s : Slice) : Str := curve 405 s (flTimesTenth (s16 s .little))

/-- Code 406: the curve of the value of code 106 (R214). -/
def convert406 (s : Slice) : Str := curve 406 s (flTimesTenth (s16 s .big))

/-- Every code that no other row assigns: `"Conv " ++ dec(code) ++ " NA"`; the slice is not read
(R215). -/
def convertOther (code : BitVec 16) : Str := ascii "Conv " ++ dec code.toNat ++ ascii " NA"

/-- `convert(code, s, n)` (R170): total, and a function of its arguments and the parameters alone. The
command arms are never reached: a conversion code decodes to a conversion (R109). -/
def convert (p : Config.Params) (code : BitVec 16) (s : Slice) : Str :=
  match decodeConversion code with
  | .step | .request _ | .decode => convertOther code
  | .reservedK3 _ | .reservedStepData _ | .reservedDecodeData _ => convertOther code
  | .conv0 => convert0 s
  | .conv100 => convert100 s
  | .conv101 => convert101 s
  | .conv102 => convert102 s
  | .conv103 => convert103 s
  | .conv104 => convert104 s
  | .conv105 => convert105 s
  | .conv106 => convert106 s
  | .conv107 => convert107 s
  | .conv108 => convert108 s
  | .conv151 => convert151 s
  | .conv152 => convert152 s
  | .conv153 => convert153 s
  | .conv154 => convert154 s
  | .conv155 => convert155 s
  | .conv156 => convert156 s
  | .conv200 => convert200 s
  | .conv203 => convert203 s
  | .conv204 => convert204 p s
  | .conv201 => convert201 p s
  | .conv217 => convert217 p s
  | .conv211 => convert211 s
  | .conv300 => convert300 s
  | .conv301 => convert301 s
  | .conv302 => convert302 s
  | .conv303 => convert303 s
  | .conv304 => convert304 s
  | .conv305 => convert305 s
  | .conv306 => convert306 s
  | .conv307 => convert307 s
  | .conv312 => convert312 p s
  | .conv315 => convert315 s
  | .conv316 => convert316 s
  | .conv401 => convert401 s
  | .conv402 => convert402 s
  | .conv403 => convert403 s
  | .conv404 => convert404 s
  | .conv405 => convert405 s
  | .conv406 => convert406 s
  | .convOther c => convertOther c

/-- CONV0 (R176). -/
def execConv0 (s : State) : Host.Outcome State Fault Refusal :=
  convResult (convert0 s.convIn) s

/-- CONV100 (R177). -/
def execConv100 (s : State) : Host.Outcome State Fault Refusal :=
  convResult (convert100 s.convIn) s

/-- CONV101 (R178). -/
def execConv101 (s : State) : Host.Outcome State Fault Refusal :=
  convResult (convert101 s.convIn) s

/-- CONV102 (R179). -/
def execConv102 (s : State) : Host.Outcome State Fault Refusal :=
  convResult (convert102 s.convIn) s

/-- CONV103 (R180). -/
def execConv103 (s : State) : Host.Outcome State Fault Refusal :=
  convResult (convert103 s.convIn) s

/-- CONV104 (R181). -/
def execConv104 (s : State) : Host.Outcome State Fault Refusal :=
  convResult (convert104 s.convIn) s

/-- CONV105 (R182). -/
def execConv105 (s : State) : Host.Outcome State Fault Refusal :=
  convResult (convert105 s.convIn) s

/-- CONV106 (R183). -/
def execConv106 (s : State) : Host.Outcome State Fault Refusal :=
  convResult (convert106 s.convIn) s

/-- CONV107 (R184). -/
def execConv107 (s : State) : Host.Outcome State Fault Refusal :=
  convResult (convert107 s.convIn) s

/-- CONV108 (R185). -/
def execConv108 (s : State) : Host.Outcome State Fault Refusal :=
  convResult (convert108 s.convIn) s

/-- CONV151 (R186). -/
def execConv151 (s : State) : Host.Outcome State Fault Refusal :=
  convResult (convert151 s.convIn) s

/-- CONV152 (R187). -/
def execConv152 (s : State) : Host.Outcome State Fault Refusal :=
  convResult (convert152 s.convIn) s

/-- CONV153 (R188). -/
def execConv153 (s : State) : Host.Outcome State Fault Refusal :=
  convResult (convert153 s.convIn) s

/-- CONV154 (R189). -/
def execConv154 (s : State) : Host.Outcome State Fault Refusal :=
  convResult (convert154 s.convIn) s

/-- CONV155 (R190). -/
def execConv155 (s : State) : Host.Outcome State Fault Refusal :=
  convResult (convert155 s.convIn) s

/-- CONV156 (R191). -/
def execConv156 (s : State) : Host.Outcome State Fault Refusal :=
  convResult (convert156 s.convIn) s

/-- CONV200 (R192). -/
def execConv200 (s : State) : Host.Outcome State Fault Refusal :=
  convResult (convert200 s.convIn) s

/-- CONV203 (R193). -/
def execConv203 (s : State) : Host.Outcome State Fault Refusal :=
  convResult (convert203 s.convIn) s

/-- CONV204 (R194). -/
def execConv204 (s : State) : Host.Outcome State Fault Refusal :=
  convResult (convert204 s.params s.convIn) s

/-- CONV201 (R195). -/
def execConv201 (s : State) : Host.Outcome State Fault Refusal :=
  convResult (convert201 s.params s.convIn) s

/-- CONV217 (R196). -/
def execConv217 (s : State) : Host.Outcome State Fault Refusal :=
  convResult (convert217 s.params s.convIn) s

/-- CONV211 (R197). -/
def execConv211 (s : State) : Host.Outcome State Fault Refusal :=
  convResult (convert211 s.convIn) s

/-- CONV300 (R198). -/
def execConv300 (s : State) : Host.Outcome State Fault Refusal :=
  convResult (convert300 s.convIn) s

/-- CONV301 (R199). -/
def execConv301 (s : State) : Host.Outcome State Fault Refusal :=
  convResult (convert301 s.convIn) s

/-- CONV302 (R200). -/
def execConv302 (s : State) : Host.Outcome State Fault Refusal :=
  convResult (convert302 s.convIn) s

/-- CONV303 (R201). -/
def execConv303 (s : State) : Host.Outcome State Fault Refusal :=
  convResult (convert303 s.convIn) s

/-- CONV304 (R202). -/
def execConv304 (s : State) : Host.Outcome State Fault Refusal :=
  convResult (convert304 s.convIn) s

/-- CONV305 (R203). -/
def execConv305 (s : State) : Host.Outcome State Fault Refusal :=
  convResult (convert305 s.convIn) s

/-- CONV306 (R204). -/
def execConv306 (s : State) : Host.Outcome State Fault Refusal :=
  convResult (convert306 s.convIn) s

/-- CONV307 (R205). -/
def execConv307 (s : State) : Host.Outcome State Fault Refusal :=
  convResult (convert307 s.convIn) s

/-- CONV312 (R206). -/
def execConv312 (s : State) : Host.Outcome State Fault Refusal :=
  convResult (convert312 s.params s.convIn) s

/-- CONV315 (R207). -/
def execConv315 (s : State) : Host.Outcome State Fault Refusal :=
  convResult (convert315 s.convIn) s

/-- CONV316 (R208). -/
def execConv316 (s : State) : Host.Outcome State Fault Refusal :=
  convResult (convert316 s.convIn) s

/-- CONV401 (R209). -/
def execConv401 (s : State) : Host.Outcome State Fault Refusal :=
  convResult (convert401 s.convIn) s

/-- CONV402 (R210). -/
def execConv402 (s : State) : Host.Outcome State Fault Refusal :=
  convResult (convert402 s.convIn) s

/-- CONV403 (R211). -/
def execConv403 (s : State) : Host.Outcome State Fault Refusal :=
  convResult (convert403 s.convIn) s

/-- CONV404 (R212). -/
def execConv404 (s : State) : Host.Outcome State Fault Refusal :=
  convResult (convert404 s.convIn) s

/-- CONV405 (R213). -/
def execConv405 (s : State) : Host.Outcome State Fault Refusal :=
  convResult (convert405 s.convIn) s

/-- CONV406 (R214). -/
def execConv406 (s : State) : Host.Outcome State Fault Refusal :=
  convResult (convert406 s.convIn) s

/-- CONV_OTHER (R215). -/
def execConvOther (code : BitVec 16) (s : State) : Host.Outcome State Fault Refusal :=
  convResult (convertOther code) s

end Sys2Proof.Machine
end

