-- ==== Sys2Proof/Machine/DecodeEngine.lean ====
section
/-! DEFINITION. DECODE, the register decode engine (spec/43_decode.md R280 to R289). -/

namespace Sys2Proof.Machine

open Sys2Proof

/-- The guards of R281 on the frame held. -/
def decodable (f : List Byte) : Bool :=
  isValidProtocol f && validate f && !isErrorFrame f && Config.minDecodable ≤ f.length

/-- The new value of one entry of `DISP` (R282 to R285): unchanged for another registry; otherwise
cleared, and then the converted slice if the slice lies in the frame. `mode` is not read (R289). -/
def decodeEntry (p : Config.Params) (f : List Byte) (d : RegDef) (old : Str) : Str :=
  if d.registryID ≠ registryID f then old
  else
    match sliceAt f (Config.payloadBase + d.offset.toNat) d.byteCount with
    | none => []
    | some s => convert p d.conversionCode s

/-- Every entry in configuration order (R282). -/
def decodeEntries (p : Config.Params) (f : List Byte) : List RegDef → List Str → List Str
  | d :: ds, v :: vs => decodeEntry p f d v :: decodeEntries p f ds vs
  | _, vs => vs

/-- DECODE (R280). -/
def execDecode (s : State) : Host.Outcome State Fault Refusal :=
  if s.st ≠ .idle then .next (raiseFault .busyDecode s)
  else
    withFrame s fun f =>
      if decodable f then .next (setDisp (decodeEntries s.params f s.cfg s.disp) s)
      else .next s

end Sys2Proof.Machine
end

