-- ==== Sys2Proof/Machine/Receive.lean ====
section
/-! DEFINITION. STEP, the receive state machine (spec/42_receive.md R241 to R249). -/

namespace Sys2Proof.Machine

open Sys2Proof

/-- `sync_byte(b)` (R241, R243, R244). -/
def syncByte (b : Byte) (s : State) : State :=
  if b = Config.marker then
    setSt .hdr (setPrev15 false (setLen 1 (fbStore 0 Config.marker s)))
  else if s.params.pErrInSync ∧ s.prev15 ∧ b = Config.errorSecond then
    finish .errorFrame (setPrev15 false
      (setLen 2 (fbStore 1 Config.errorSecond (fbStore 0 Config.errorFirst s))))
  else
    setPrev15 (b == Config.errorFirst) s

/-- `registry_check()` (R241, R245) on the registry byte `r` just stored. -/
def registryCheck (r : Byte) (s : State) : State :=
  if r ≠ s.reqReg then setSt .sync (setPrev15 (r == Config.errorFirst) (setLen 0 s)) else s

/-- `post_append()` (R241, R248, R249): the error check first, then the length check. -/
def postAppend (s : State) : Host.Outcome State Fault Refusal :=
  withFrame s fun f =>
    if isErrorFrame f then .next (finish .errorFrame s)
    else if expectedLength f ≤ s.len then
      if validate f then .next (finish .ok s) else .next (finish .badCksum s)
    else .next s

/-- What a consumed byte does in each state (R241). STEP consumes none in `IDLE`. -/
def consumeByte (b : Byte) (s : State) : Host.Outcome State Fault Refusal :=
  match s.st with
  | .idle => .next s
  | .sync => .next (syncByte b s)
  | .hdr =>
    withAppended b s fun s' =>
      if s'.len = 2 then .next (registryCheck b s') else postAppend (setSt .pay s')
  | .pay => withAppended b s postAppend

/-- STEP (R241): the deadline is checked before any byte is read (R304). -/
def execStep (s : State) : Host.Outcome State Fault Refusal :=
  if s.st = .idle then .next s
  else if expired s then .next (finish .timedOut (setLen 0 s))
  else
    match rxPop? s with
    | none => .next s
    | some (b, s') => consumeByte b s'

end Sys2Proof.Machine
end

