-- ==== Sys2Proof/Machine/Dispatch.lean ====
section
/-! DEFINITION. One arm per constructor of `Instr`, each one direct call of its meaning. -/

namespace Sys2Proof.Machine

open Sys2Proof

def exec (i : Instr) (s : State) : Host.Outcome State Fault Refusal :=
  match i with
  | .step => Sys2Proof.Machine.execStep s
  | .request reg => Sys2Proof.Machine.execRequest reg s
  | .decode => Sys2Proof.Machine.execDecode s
  | .reservedK3 data => Sys2Proof.Machine.execReservedK3 data s
  | .reservedStepData data => Sys2Proof.Machine.execReservedStepData data s
  | .reservedDecodeData data => Sys2Proof.Machine.execReservedDecodeData data s
  | .conv0 => Sys2Proof.Machine.execConv0 s
  | .conv100 => Sys2Proof.Machine.execConv100 s
  | .conv101 => Sys2Proof.Machine.execConv101 s
  | .conv102 => Sys2Proof.Machine.execConv102 s
  | .conv103 => Sys2Proof.Machine.execConv103 s
  | .conv104 => Sys2Proof.Machine.execConv104 s
  | .conv105 => Sys2Proof.Machine.execConv105 s
  | .conv106 => Sys2Proof.Machine.execConv106 s
  | .conv107 => Sys2Proof.Machine.execConv107 s
  | .conv108 => Sys2Proof.Machine.execConv108 s
  | .conv151 => Sys2Proof.Machine.execConv151 s
  | .conv152 => Sys2Proof.Machine.execConv152 s
  | .conv153 => Sys2Proof.Machine.execConv153 s
  | .conv154 => Sys2Proof.Machine.execConv154 s
  | .conv155 => Sys2Proof.Machine.execConv155 s
  | .conv156 => Sys2Proof.Machine.execConv156 s
  | .conv200 => Sys2Proof.Machine.execConv200 s
  | .conv203 => Sys2Proof.Machine.execConv203 s
  | .conv204 => Sys2Proof.Machine.execConv204 s
  | .conv201 => Sys2Proof.Machine.execConv201 s
  | .conv217 => Sys2Proof.Machine.execConv217 s
  | .conv211 => Sys2Proof.Machine.execConv211 s
  | .conv300 => Sys2Proof.Machine.execConv300 s
  | .conv301 => Sys2Proof.Machine.execConv301 s
  | .conv302 => Sys2Proof.Machine.execConv302 s
  | .conv303 => Sys2Proof.Machine.execConv303 s
  | .conv304 => Sys2Proof.Machine.execConv304 s
  | .conv305 => Sys2Proof.Machine.execConv305 s
  | .conv306 => Sys2Proof.Machine.execConv306 s
  | .conv307 => Sys2Proof.Machine.execConv307 s
  | .conv312 => Sys2Proof.Machine.execConv312 s
  | .conv315 => Sys2Proof.Machine.execConv315 s
  | .conv316 => Sys2Proof.Machine.execConv316 s
  | .conv401 => Sys2Proof.Machine.execConv401 s
  | .conv402 => Sys2Proof.Machine.execConv402 s
  | .conv403 => Sys2Proof.Machine.execConv403 s
  | .conv404 => Sys2Proof.Machine.execConv404 s
  | .conv405 => Sys2Proof.Machine.execConv405 s
  | .conv406 => Sys2Proof.Machine.execConv406 s
  | .convOther code => Sys2Proof.Machine.execConvOther code s

end Sys2Proof.Machine
end

