-- ==== Sys2Proof/Machine/Flags.lean ====
section
/-! DEFINITION. The status flags as the host sees them: the words STATUS, LEN and TSTART
(spec/10_state.md R29), the classification TEXT (spec/41_conversion.md R175) and the results
interface (spec/43_decode.md R288). The block has no condition codes (R34). -/

namespace Sys2Proof.Machine

open Sys2Proof

/-- The 2-bit value of `st` (R21). -/
def RxState.code : RxState → BitVec 2
  | .idle => 0
  | .sync => 1
  | .hdr => 2
  | .pay => 3

/-- The 3-bit value of `res` (R22). -/
def Res.code : Res → BitVec 3
  | .none => 0
  | .ok => 1
  | .badCksum => 2
  | .errorFrame => 3
  | .timedOut => 4
  | .mismatch => 5

/-- The 2-bit value of `fcause` (R23). -/
def FCause.code : FCause → BitVec 2
  | .none => 0
  | .busyRequest => 1
  | .busyDecode => 2
  | .reservedCmd => 3

/-- `STATUS` (R29): `req_reg` in [15:8], `fcause` in [7:6], `fault` in [5], `res` in [4:2], `st` in
[1:0]. -/
def statusWord (s : State) : BitVec 16 :=
  s.reqReg ++ s.fcause.code ++ BitVec.ofBool s.fault ++ s.res.code ++ s.st.code

/-- `LEN` (R29): `len` in [8:0], the reserved bits [15:9] zero. -/
def lenWord (s : State) : BitVec 16 := 0#7 ++ BitVec.ofNat 9 s.len

/-- `TSTART` (R29). -/
def tstartWord (s : State) : BitVec 32 := s.tStart

/-- `NUMERIC` of R175. -/
def numericCodes : List Nat :=
  List.flatten
    [[101, 102, 103, 104, 105, 106, 107, 108], [151, 152, 153, 154, 155, 156], [312],
     [401, 402, 403, 404, 405, 406]]

/-- `is_text(code)` (R175). -/
def isText (code : BitVec 16) : Bool := !numericCodes.contains code.toNat

/-- What the block exposes for one entry: its label, `DISP[i]` and `TEXT[i]` (R288, R31). -/
def resultAt (s : State) (i : Nat) : Option HostWord :=
  match s.cfg[i]?, s.disp[i]? with
  | some d, some v => some (.entry d.label v (isText d.conversionCode))
  | _, _ => none

end Sys2Proof.Machine
end

