-- ==== Sys2Proof/Machine/Environment.lean ====
section
/-! DEFINITION. The moves of the environment (spec/60_exceptions.md R314, spec/70_reset_and_hazards.md
R330 to R332, R342): presenting a command, reset, boot, and host reads. -/

namespace Sys2Proof.Machine

open Sys2Proof

/-- Reset (R330, R35): every field of the block at its reset value; configuration, parameters and the
two streams stay. -/
def resetBlock (s : State) : State :=
  { s with
    st := .idle, res := .none, fault := false, fcause := .none, reqReg := 0, tStart := 0
    len := 0, fb := [], prev15 := false, disp := List.replicate s.cfg.length [] }

/-- Unpack every record of a configuration, none if one of them is not well formed (R111). -/
def unpackAll : List ConfigRecord → Option (List RegDef)
  | [] => some []
  | r :: rs =>
    match RegDef.unpack r, unpackAll rs with
    | some d, some ds => some (d :: ds)
    | _, _ => none

/-- The parameters and the configuration table of a run, with one empty display value for each entry
(R35, R331). -/
def configure (p : Config.Params) (ds : List RegDef) (s : State) : State :=
  { s with params := p, cfg := ds, disp := List.replicate ds.length [], cfgFixed := true }

/-- The boot of R331 and R332: once, and before the first command. -/
def boot (p : Config.Params) (rs : List ConfigRecord) (s : State) :
    Host.Outcome State Fault Refusal :=
  if s.cfgFixed then .refused .configChanged
  else if !p.wf then .refused .illFormedParams
  else
    match unpackAll rs with
    | none => .refused .illFormedConfig
    | some ds =>
      .next (configure p ds s)

/-- A host read (R29, R36, R288): the value read is shown to the host, and nothing else changes (R67). -/
def hostRead (port : ReadPort) (s : State) : Host.Outcome State Fault Refusal :=
  match port with
  | .status => .next (setHostOut (.word16 (statusWord s)) s)
  | .len => .next (setHostOut (.word16 (lenWord s)) s)
  | .tstart => .next (setHostOut (.word32 (tstartWord s)) s)
  | .fb i =>
    match fbRead s i with
    | some b => .next (setHostOut (.byte b) s)
    | none => .fault (.fbNoValue i)
  | .result i =>
    match resultAt s i with
    | some r => .next (setHostOut r s)
    | none => .fault (.noSuchEntry i)

/-- The host presents a command with its time value (R10, R112). From the first command on, the
configuration and the parameters are fixed (R37). -/
def present (t : BitVec 32) (s : State) : State := { s with now := t, cfgFixed := true }

/-- One move of the environment. -/
def runEvent (e : Event) (s : State) : Host.Outcome State Fault Refusal :=
  match e with
  | .command w t => exec (decode (.command w)) (present t s)
  | .rx bytes => .next (rxAppend bytes s)
  | .reset => .next (resetBlock s)
  | .boot p rs => boot p rs s
  | .read port => hostRead port s
  | .convert code sl => exec (decode (.conversion code)) (setConvIn sl s)

/-- The event that presents an instruction word: a command with the time value last presented, a
conversion code with a slice of one zero byte. -/
def eventOf (w : InstrWord) (s : State) : Event :=
  match w with
  | .command w => .command w s.now
  | .conversion code => .convert code (.one 0)

end Sys2Proof.Machine
end

