-- ==== Sys2Proof/Machine/Step.lean ====
section
/-! DEFINITION. One step of the machine: the next move of the environment, if there is one. -/

namespace Sys2Proof.Machine

open Sys2Proof

/-- One step: take the next event of the input and run it. The block does nothing between commands
(R313), so with no event waiting the state stays as it is. -/
def step (s : State) : Host.Outcome State Fault Refusal :=
  match s.input with
  | [] => .next s
  | e :: rest => runEvent e (setInput rest s)

/-- The state with an instruction word of the opcode table as the next event of its input. A number
that is no word leaves the state as it is. -/
def State.withFetchWord (s : State) (nbits w : Nat) : State :=
  match tableWord nbits w with
  | some word => setInput (eventOf word s :: s.input) s
  | none => s

end Sys2Proof.Machine
end

