-- ==== Sys2Proof/Laws/Memory.lean ====
section
/-! SUPPORT. The laws of the frame buffer's memory: reading after writing, the canonical form, and
what discarding bytes does. -/

namespace Sys2Proof.Machine

open Sys2Proof

@[simp] theorem Memory.read_nil (i : Nat) : Memory.read [] i = none := rfl

/-- A byte reads as what was last stored there. -/
@[simp] theorem Memory.read_write_same (m : Memory) (i : Nat) (v : Byte) :
    Memory.read (Memory.write m i v) i = some v := by
  induction m with
  | nil => simp [Memory.write, Memory.read]
  | cons c m ih =>
    obtain ⟨a, b⟩ := c
    simp only [Memory.write]
    split
    · simp [Memory.read]
    · split
      · simp [Memory.read]
      · rename_i h; simp [Memory.read, Ne.symm h, ih]

/-- A store leaves every other address as it was. -/
theorem Memory.read_write_other (m : Memory) {i j : Nat} (v : Byte) (h : i ≠ j) :
    Memory.read (Memory.write m i v) j = Memory.read m j := by
  induction m with
  | nil => simp [Memory.write, Memory.read, h]
  | cons c m ih =>
    obtain ⟨a, b⟩ := c
    simp only [Memory.write]
    split
    · simp [Memory.read, h]
    · split
      · rename_i h2; subst h2; simp [Memory.read, h]
      · simp [Memory.read, ih]

/-- Discarding the bytes from `n` on keeps those below and forgets the others. -/
theorem Memory.read_truncate (n : Nat) (m : Memory) (i : Nat) :
    Memory.read (Memory.truncate n m) i = if i < n then Memory.read m i else none := by
  induction m with
  | nil => simp [Memory.truncate]
  | cons c m ih =>
    obtain ⟨a, b⟩ := c
    simp only [Memory.truncate] at ih ⊢
    rw [List.filter_cons]
    by_cases ha : a < n
    · simp only [ha, decide_true, if_true, Memory.read, ih]
      by_cases hai : a = i
      · subst hai; simp [ha]
      · simp [hai]
    · simp only [ha, decide_false, Bool.false_eq_true, if_false, Memory.read]
      rw [ih]
      by_cases hai : a = i
      · subst hai; simp [ha]
      · simp [hai]

/-- An address at or above all listed ones plus one is not listed. -/
theorem Memory.read_none_of_lt (m : Memory) (i : Nat) (h : ∀ c ∈ m, c.1 ≠ i) :
    Memory.read m i = none := by
  induction m with
  | nil => rfl
  | cons c m ih =>
    obtain ⟨a, b⟩ := c
    simp only [Memory.read, h (a, b) (by simp), if_false]
    exact ih fun d hd => h d (by simp [hd])

/-- What is listed after a store: the new cell, and cells that were there. -/
theorem Memory.mem_write {m : Memory} {i : Nat} {v : Byte} {c : Host.Cell}
    (h : c ∈ Memory.write m i v) : c = (i, v) ∨ c ∈ m := by
  induction m with
  | nil => simpa [Memory.write] using h
  | cons d m ih =>
    obtain ⟨a, b⟩ := d
    simp only [Memory.write] at h
    split at h
    · simpa using h
    · split at h
      · simp only [List.mem_cons] at h ⊢; tauto
      · simp only [List.mem_cons] at h ⊢; tauto

/-- A store keeps the addresses strictly rising. -/
theorem Memory.write_pairwise {m : Memory} (i : Nat) (v : Byte)
    (h : m.Pairwise fun c d => c.1 < d.1) :
    (Memory.write m i v).Pairwise fun c d => c.1 < d.1 := by
  induction m with
  | nil => simp [Memory.write]
  | cons c m ih =>
    obtain ⟨a, b⟩ := c
    obtain ⟨h1, h2⟩ := List.pairwise_cons.mp h
    simp only [Memory.write]
    split
    · rename_i hia
      refine List.pairwise_cons.mpr ⟨fun d hd => ?_, h⟩
      rcases List.mem_cons.mp hd with rfl | hd
      · exact hia
      · exact lt_trans hia (h1 d hd)
    · split
      · rename_i hia; subst hia
        exact List.pairwise_cons.mpr ⟨fun d hd => h1 d hd, h2⟩
      · rename_i hlt hne
        refine List.pairwise_cons.mpr ⟨fun d hd => ?_, ih h2⟩
        rcases Memory.mem_write hd with rfl | hd
        · have := not_lt.mp hlt; show a < i; omega
        · exact h1 d hd

/-- A store inside `FB` keeps the canonical form. -/
theorem Memory.write_wf {m : Memory} (i : Nat) (v : Byte) (h : Memory.wf m)
    (hi : i < Config.bufCap) : Memory.wf (Memory.write m i v) := by
  refine ⟨Memory.write_pairwise i v h.1, fun c hc => ?_⟩
  rcases Memory.mem_write hc with rfl | hc
  · exact hi
  · exact h.2 c hc

/-- Discarding bytes keeps the canonical form. -/
theorem Memory.truncate_wf {m : Memory} (n : Nat) (h : Memory.wf m) :
    Memory.wf (Memory.truncate n m) :=
  ⟨h.1.filter _, fun c hc => h.2 c (List.mem_of_mem_filter hc)⟩

/-- The empty memory of reset has the canonical form. -/
theorem Memory.wf_nil : Memory.wf ([] : Memory) := ⟨List.Pairwise.nil, by simp⟩

@[simp] theorem Memory.truncate_zero (m : Memory) : Memory.truncate 0 m = [] := by
  simp [Memory.truncate]

/-- Storing above every listed address appends the cell. -/
theorem Memory.write_above {m : Memory} {i : Nat} (v : Byte) (h : ∀ c ∈ m, c.1 < i) :
    Memory.write m i v = m ++ [(i, v)] := by
  induction m with
  | nil => rfl
  | cons c m ih =>
    obtain ⟨a, b⟩ := c
    have ha : a < i := h (a, b) (by simp)
    simp only [Memory.write, if_neg (Nat.lt_asymm ha), if_neg (Nat.ne_of_gt ha)]
    simp [ih fun d hd => h d (by simp [hd])]

/-- Nothing is forgotten when every listed address is below the limit. -/
theorem Memory.truncate_of_lt {m : Memory} {n : Nat} (h : ∀ c ∈ m, c.1 < n) :
    Memory.truncate n m = m := by
  simpa [Memory.truncate, List.filter_eq_self] using h

end Sys2Proof.Machine
end

