-- ==== Sys2Proof/Laws/State.lean ====
section
/-! SUPPORT. What each shared update of the state does to each field: one lemma per field per update. -/

namespace Sys2Proof.Machine

open Sys2Proof

/-! setSt -/

@[simp] theorem setSt_st (x : RxState) (s : State) : (setSt x s).st = x := rfl
@[simp] theorem setSt_res (x : RxState) (s : State) : (setSt x s).res = s.res := rfl
@[simp] theorem setSt_fault (x : RxState) (s : State) : (setSt x s).fault = s.fault := rfl
@[simp] theorem setSt_fcause (x : RxState) (s : State) : (setSt x s).fcause = s.fcause := rfl
@[simp] theorem setSt_reqReg (x : RxState) (s : State) : (setSt x s).reqReg = s.reqReg := rfl
@[simp] theorem setSt_tStart (x : RxState) (s : State) : (setSt x s).tStart = s.tStart := rfl
@[simp] theorem setSt_len (x : RxState) (s : State) : (setSt x s).len = s.len := rfl
@[simp] theorem setSt_fb (x : RxState) (s : State) : (setSt x s).fb = s.fb := rfl
@[simp] theorem setSt_prev15 (x : RxState) (s : State) : (setSt x s).prev15 = s.prev15 := rfl
@[simp] theorem setSt_cfg (x : RxState) (s : State) : (setSt x s).cfg = s.cfg := rfl
@[simp] theorem setSt_disp (x : RxState) (s : State) : (setSt x s).disp = s.disp := rfl
@[simp] theorem setSt_params (x : RxState) (s : State) : (setSt x s).params = s.params := rfl
@[simp] theorem setSt_rxq (x : RxState) (s : State) : (setSt x s).rxq = s.rxq := rfl
@[simp] theorem setSt_txs (x : RxState) (s : State) : (setSt x s).txs = s.txs := rfl
@[simp] theorem setSt_now (x : RxState) (s : State) : (setSt x s).now = s.now := rfl
@[simp] theorem setSt_cfgFixed (x : RxState) (s : State) : (setSt x s).cfgFixed = s.cfgFixed := rfl
@[simp] theorem setSt_input (x : RxState) (s : State) : (setSt x s).input = s.input := rfl
@[simp] theorem setSt_convIn (x : RxState) (s : State) : (setSt x s).convIn = s.convIn := rfl
@[simp] theorem setSt_convOut (x : RxState) (s : State) : (setSt x s).convOut = s.convOut := rfl
@[simp] theorem setSt_hostOut (x : RxState) (s : State) : (setSt x s).hostOut = s.hostOut := rfl

/-! setPrev15 -/

@[simp] theorem setPrev15_st (x : Bool) (s : State) : (setPrev15 x s).st = s.st := rfl
@[simp] theorem setPrev15_res (x : Bool) (s : State) : (setPrev15 x s).res = s.res := rfl
@[simp] theorem setPrev15_fault (x : Bool) (s : State) : (setPrev15 x s).fault = s.fault := rfl
@[simp] theorem setPrev15_fcause (x : Bool) (s : State) : (setPrev15 x s).fcause = s.fcause := rfl
@[simp] theorem setPrev15_reqReg (x : Bool) (s : State) : (setPrev15 x s).reqReg = s.reqReg := rfl
@[simp] theorem setPrev15_tStart (x : Bool) (s : State) : (setPrev15 x s).tStart = s.tStart := rfl
@[simp] theorem setPrev15_len (x : Bool) (s : State) : (setPrev15 x s).len = s.len := rfl
@[simp] theorem setPrev15_fb (x : Bool) (s : State) : (setPrev15 x s).fb = s.fb := rfl
@[simp] theorem setPrev15_prev15 (x : Bool) (s : State) : (setPrev15 x s).prev15 = x := rfl
@[simp] theorem setPrev15_cfg (x : Bool) (s : State) : (setPrev15 x s).cfg = s.cfg := rfl
@[simp] theorem setPrev15_disp (x : Bool) (s : State) : (setPrev15 x s).disp = s.disp := rfl
@[simp] theorem setPrev15_params (x : Bool) (s : State) : (setPrev15 x s).params = s.params := rfl
@[simp] theorem setPrev15_rxq (x : Bool) (s : State) : (setPrev15 x s).rxq = s.rxq := rfl
@[simp] theorem setPrev15_txs (x : Bool) (s : State) : (setPrev15 x s).txs = s.txs := rfl
@[simp] theorem setPrev15_now (x : Bool) (s : State) : (setPrev15 x s).now = s.now := rfl
@[simp] theorem setPrev15_cfgFixed (x : Bool) (s : State) : (setPrev15 x s).cfgFixed = s.cfgFixed := rfl
@[simp] theorem setPrev15_input (x : Bool) (s : State) : (setPrev15 x s).input = s.input := rfl
@[simp] theorem setPrev15_convIn (x : Bool) (s : State) : (setPrev15 x s).convIn = s.convIn := rfl
@[simp] theorem setPrev15_convOut (x : Bool) (s : State) : (setPrev15 x s).convOut = s.convOut := rfl
@[simp] theorem setPrev15_hostOut (x : Bool) (s : State) : (setPrev15 x s).hostOut = s.hostOut := rfl

/-! setDisp -/

@[simp] theorem setDisp_st (x : List Str) (s : State) : (setDisp x s).st = s.st := rfl
@[simp] theorem setDisp_res (x : List Str) (s : State) : (setDisp x s).res = s.res := rfl
@[simp] theorem setDisp_fault (x : List Str) (s : State) : (setDisp x s).fault = s.fault := rfl
@[simp] theorem setDisp_fcause (x : List Str) (s : State) : (setDisp x s).fcause = s.fcause := rfl
@[simp] theorem setDisp_reqReg (x : List Str) (s : State) : (setDisp x s).reqReg = s.reqReg := rfl
@[simp] theorem setDisp_tStart (x : List Str) (s : State) : (setDisp x s).tStart = s.tStart := rfl
@[simp] theorem setDisp_len (x : List Str) (s : State) : (setDisp x s).len = s.len := rfl
@[simp] theorem setDisp_fb (x : List Str) (s : State) : (setDisp x s).fb = s.fb := rfl
@[simp] theorem setDisp_prev15 (x : List Str) (s : State) : (setDisp x s).prev15 = s.prev15 := rfl
@[simp] theorem setDisp_cfg (x : List Str) (s : State) : (setDisp x s).cfg = s.cfg := rfl
@[simp] theorem setDisp_disp (x : List Str) (s : State) : (setDisp x s).disp = x := rfl
@[simp] theorem setDisp_params (x : List Str) (s : State) : (setDisp x s).params = s.params := rfl
@[simp] theorem setDisp_rxq (x : List Str) (s : State) : (setDisp x s).rxq = s.rxq := rfl
@[simp] theorem setDisp_txs (x : List Str) (s : State) : (setDisp x s).txs = s.txs := rfl
@[simp] theorem setDisp_now (x : List Str) (s : State) : (setDisp x s).now = s.now := rfl
@[simp] theorem setDisp_cfgFixed (x : List Str) (s : State) : (setDisp x s).cfgFixed = s.cfgFixed := rfl
@[simp] theorem setDisp_input (x : List Str) (s : State) : (setDisp x s).input = s.input := rfl
@[simp] theorem setDisp_convIn (x : List Str) (s : State) : (setDisp x s).convIn = s.convIn := rfl
@[simp] theorem setDisp_convOut (x : List Str) (s : State) : (setDisp x s).convOut = s.convOut := rfl
@[simp] theorem setDisp_hostOut (x : List Str) (s : State) : (setDisp x s).hostOut = s.hostOut := rfl

/-! setRxq -/

@[simp] theorem setRxq_st (x : List Byte) (s : State) : (setRxq x s).st = s.st := rfl
@[simp] theorem setRxq_res (x : List Byte) (s : State) : (setRxq x s).res = s.res := rfl
@[simp] theorem setRxq_fault (x : List Byte) (s : State) : (setRxq x s).fault = s.fault := rfl
@[simp] theorem setRxq_fcause (x : List Byte) (s : State) : (setRxq x s).fcause = s.fcause := rfl
@[simp] theorem setRxq_reqReg (x : List Byte) (s : State) : (setRxq x s).reqReg = s.reqReg := rfl
@[simp] theorem setRxq_tStart (x : List Byte) (s : State) : (setRxq x s).tStart = s.tStart := rfl
@[simp] theorem setRxq_len (x : List Byte) (s : State) : (setRxq x s).len = s.len := rfl
@[simp] theorem setRxq_fb (x : List Byte) (s : State) : (setRxq x s).fb = s.fb := rfl
@[simp] theorem setRxq_prev15 (x : List Byte) (s : State) : (setRxq x s).prev15 = s.prev15 := rfl
@[simp] theorem setRxq_cfg (x : List Byte) (s : State) : (setRxq x s).cfg = s.cfg := rfl
@[simp] theorem setRxq_disp (x : List Byte) (s : State) : (setRxq x s).disp = s.disp := rfl
@[simp] theorem setRxq_params (x : List Byte) (s : State) : (setRxq x s).params = s.params := rfl
@[simp] theorem setRxq_rxq (x : List Byte) (s : State) : (setRxq x s).rxq = x := rfl
@[simp] theorem setRxq_txs (x : List Byte) (s : State) : (setRxq x s).txs = s.txs := rfl
@[simp] theorem setRxq_now (x : List Byte) (s : State) : (setRxq x s).now = s.now := rfl
@[simp] theorem setRxq_cfgFixed (x : List Byte) (s : State) : (setRxq x s).cfgFixed = s.cfgFixed := rfl
@[simp] theorem setRxq_input (x : List Byte) (s : State) : (setRxq x s).input = s.input := rfl
@[simp] theorem setRxq_convIn (x : List Byte) (s : State) : (setRxq x s).convIn = s.convIn := rfl
@[simp] theorem setRxq_convOut (x : List Byte) (s : State) : (setRxq x s).convOut = s.convOut := rfl
@[simp] theorem setRxq_hostOut (x : List Byte) (s : State) : (setRxq x s).hostOut = s.hostOut := rfl

/-! setInput -/

@[simp] theorem setInput_st (x : List Event) (s : State) : (setInput x s).st = s.st := rfl
@[simp] theorem setInput_res (x : List Event) (s : State) : (setInput x s).res = s.res := rfl
@[simp] theorem setInput_fault (x : List Event) (s : State) : (setInput x s).fault = s.fault := rfl
@[simp] theorem setInput_fcause (x : List Event) (s : State) : (setInput x s).fcause = s.fcause := rfl
@[simp] theorem setInput_reqReg (x : List Event) (s : State) : (setInput x s).reqReg = s.reqReg := rfl
@[simp] theorem setInput_tStart (x : List Event) (s : State) : (setInput x s).tStart = s.tStart := rfl
@[simp] theorem setInput_len (x : List Event) (s : State) : (setInput x s).len = s.len := rfl
@[simp] theorem setInput_fb (x : List Event) (s : State) : (setInput x s).fb = s.fb := rfl
@[simp] theorem setInput_prev15 (x : List Event) (s : State) : (setInput x s).prev15 = s.prev15 := rfl
@[simp] theorem setInput_cfg (x : List Event) (s : State) : (setInput x s).cfg = s.cfg := rfl
@[simp] theorem setInput_disp (x : List Event) (s : State) : (setInput x s).disp = s.disp := rfl
@[simp] theorem setInput_params (x : List Event) (s : State) : (setInput x s).params = s.params := rfl
@[simp] theorem setInput_rxq (x : List Event) (s : State) : (setInput x s).rxq = s.rxq := rfl
@[simp] theorem setInput_txs (x : List Event) (s : State) : (setInput x s).txs = s.txs := rfl
@[simp] theorem setInput_now (x : List Event) (s : State) : (setInput x s).now = s.now := rfl
@[simp] theorem setInput_cfgFixed (x : List Event) (s : State) : (setInput x s).cfgFixed = s.cfgFixed := rfl
@[simp] theorem setInput_input (x : List Event) (s : State) : (setInput x s).input = x := rfl
@[simp] theorem setInput_convIn (x : List Event) (s : State) : (setInput x s).convIn = s.convIn := rfl
@[simp] theorem setInput_convOut (x : List Event) (s : State) : (setInput x s).convOut = s.convOut := rfl
@[simp] theorem setInput_hostOut (x : List Event) (s : State) : (setInput x s).hostOut = s.hostOut := rfl

/-! setConvIn -/

@[simp] theorem setConvIn_st (x : Slice) (s : State) : (setConvIn x s).st = s.st := rfl
@[simp] theorem setConvIn_res (x : Slice) (s : State) : (setConvIn x s).res = s.res := rfl
@[simp] theorem setConvIn_fault (x : Slice) (s : State) : (setConvIn x s).fault = s.fault := rfl
@[simp] theorem setConvIn_fcause (x : Slice) (s : State) : (setConvIn x s).fcause = s.fcause := rfl
@[simp] theorem setConvIn_reqReg (x : Slice) (s : State) : (setConvIn x s).reqReg = s.reqReg := rfl
@[simp] theorem setConvIn_tStart (x : Slice) (s : State) : (setConvIn x s).tStart = s.tStart := rfl
@[simp] theorem setConvIn_len (x : Slice) (s : State) : (setConvIn x s).len = s.len := rfl
@[simp] theorem setConvIn_fb (x : Slice) (s : State) : (setConvIn x s).fb = s.fb := rfl
@[simp] theorem setConvIn_prev15 (x : Slice) (s : State) : (setConvIn x s).prev15 = s.prev15 := rfl
@[simp] theorem setConvIn_cfg (x : Slice) (s : State) : (setConvIn x s).cfg = s.cfg := rfl
@[simp] theorem setConvIn_disp (x : Slice) (s : State) : (setConvIn x s).disp = s.disp := rfl
@[simp] theorem setConvIn_params (x : Slice) (s : State) : (setConvIn x s).params = s.params := rfl
@[simp] theorem setConvIn_rxq (x : Slice) (s : State) : (setConvIn x s).rxq = s.rxq := rfl
@[simp] theorem setConvIn_txs (x : Slice) (s : State) : (setConvIn x s).txs = s.txs := rfl
@[simp] theorem setConvIn_now (x : Slice) (s : State) : (setConvIn x s).now = s.now := rfl
@[simp] theorem setConvIn_cfgFixed (x : Slice) (s : State) : (setConvIn x s).cfgFixed = s.cfgFixed := rfl
@[simp] theorem setConvIn_input (x : Slice) (s : State) : (setConvIn x s).input = s.input := rfl
@[simp] theorem setConvIn_convIn (x : Slice) (s : State) : (setConvIn x s).convIn = x := rfl
@[simp] theorem setConvIn_convOut (x : Slice) (s : State) : (setConvIn x s).convOut = s.convOut := rfl
@[simp] theorem setConvIn_hostOut (x : Slice) (s : State) : (setConvIn x s).hostOut = s.hostOut := rfl

/-! setConvOut -/

@[simp] theorem setConvOut_st (x : Str) (s : State) : (setConvOut x s).st = s.st := rfl
@[simp] theorem setConvOut_res (x : Str) (s : State) : (setConvOut x s).res = s.res := rfl
@[simp] theorem setConvOut_fault (x : Str) (s : State) : (setConvOut x s).fault = s.fault := rfl
@[simp] theorem setConvOut_fcause (x : Str) (s : State) : (setConvOut x s).fcause = s.fcause := rfl
@[simp] theorem setConvOut_reqReg (x : Str) (s : State) : (setConvOut x s).reqReg = s.reqReg := rfl
@[simp] theorem setConvOut_tStart (x : Str) (s : State) : (setConvOut x s).tStart = s.tStart := rfl
@[simp] theorem setConvOut_len (x : Str) (s : State) : (setConvOut x s).len = s.len := rfl
@[simp] theorem setConvOut_fb (x : Str) (s : State) : (setConvOut x s).fb = s.fb := rfl
@[simp] theorem setConvOut_prev15 (x : Str) (s : State) : (setConvOut x s).prev15 = s.prev15 := rfl
@[simp] theorem setConvOut_cfg (x : Str) (s : State) : (setConvOut x s).cfg = s.cfg := rfl
@[simp] theorem setConvOut_disp (x : Str) (s : State) : (setConvOut x s).disp = s.disp := rfl
@[simp] theorem setConvOut_params (x : Str) (s : State) : (setConvOut x s).params = s.params := rfl
@[simp] theorem setConvOut_rxq (x : Str) (s : State) : (setConvOut x s).rxq = s.rxq := rfl
@[simp] theorem setConvOut_txs (x : Str) (s : State) : (setConvOut x s).txs = s.txs := rfl
@[simp] theorem setConvOut_now (x : Str) (s : State) : (setConvOut x s).now = s.now := rfl
@[simp] theorem setConvOut_cfgFixed (x : Str) (s : State) : (setConvOut x s).cfgFixed = s.cfgFixed := rfl
@[simp] theorem setConvOut_input (x : Str) (s : State) : (setConvOut x s).input = s.input := rfl
@[simp] theorem setConvOut_convIn (x : Str) (s : State) : (setConvOut x s).convIn = s.convIn := rfl
@[simp] theorem setConvOut_convOut (x : Str) (s : State) : (setConvOut x s).convOut = x := rfl
@[simp] theorem setConvOut_hostOut (x : Str) (s : State) : (setConvOut x s).hostOut = s.hostOut := rfl

/-! setHostOut -/

@[simp] theorem setHostOut_st (x : HostWord) (s : State) : (setHostOut x s).st = s.st := rfl
@[simp] theorem setHostOut_res (x : HostWord) (s : State) : (setHostOut x s).res = s.res := rfl
@[simp] theorem setHostOut_fault (x : HostWord) (s : State) : (setHostOut x s).fault = s.fault := rfl
@[simp] theorem setHostOut_fcause (x : HostWord) (s : State) : (setHostOut x s).fcause = s.fcause := rfl
@[simp] theorem setHostOut_reqReg (x : HostWord) (s : State) : (setHostOut x s).reqReg = s.reqReg := rfl
@[simp] theorem setHostOut_tStart (x : HostWord) (s : State) : (setHostOut x s).tStart = s.tStart := rfl
@[simp] theorem setHostOut_len (x : HostWord) (s : State) : (setHostOut x s).len = s.len := rfl
@[simp] theorem setHostOut_fb (x : HostWord) (s : State) : (setHostOut x s).fb = s.fb := rfl
@[simp] theorem setHostOut_prev15 (x : HostWord) (s : State) : (setHostOut x s).prev15 = s.prev15 := rfl
@[simp] theorem setHostOut_cfg (x : HostWord) (s : State) : (setHostOut x s).cfg = s.cfg := rfl
@[simp] theorem setHostOut_disp (x : HostWord) (s : State) : (setHostOut x s).disp = s.disp := rfl
@[simp] theorem setHostOut_params (x : HostWord) (s : State) : (setHostOut x s).params = s.params := rfl
@[simp] theorem setHostOut_rxq (x : HostWord) (s : State) : (setHostOut x s).rxq = s.rxq := rfl
@[simp] theorem setHostOut_txs (x : HostWord) (s : State) : (setHostOut x s).txs = s.txs := rfl
@[simp] theorem setHostOut_now (x : HostWord) (s : State) : (setHostOut x s).now = s.now := rfl
@[simp] theorem setHostOut_cfgFixed (x : HostWord) (s : State) : (setHostOut x s).cfgFixed = s.cfgFixed := rfl
@[simp] theorem setHostOut_input (x : HostWord) (s : State) : (setHostOut x s).input = s.input := rfl
@[simp] theorem setHostOut_convIn (x : HostWord) (s : State) : (setHostOut x s).convIn = s.convIn := rfl
@[simp] theorem setHostOut_convOut (x : HostWord) (s : State) : (setHostOut x s).convOut = s.convOut := rfl
@[simp] theorem setHostOut_hostOut (x : HostWord) (s : State) : (setHostOut x s).hostOut = x := rfl

/-! setLen -/

@[simp] theorem setLen_st (n : Nat) (s : State) : (setLen n s).st = s.st := rfl
@[simp] theorem setLen_res (n : Nat) (s : State) : (setLen n s).res = s.res := rfl
@[simp] theorem setLen_fault (n : Nat) (s : State) : (setLen n s).fault = s.fault := rfl
@[simp] theorem setLen_fcause (n : Nat) (s : State) : (setLen n s).fcause = s.fcause := rfl
@[simp] theorem setLen_reqReg (n : Nat) (s : State) : (setLen n s).reqReg = s.reqReg := rfl
@[simp] theorem setLen_tStart (n : Nat) (s : State) : (setLen n s).tStart = s.tStart := rfl
@[simp] theorem setLen_len (n : Nat) (s : State) : (setLen n s).len = n := rfl
@[simp] theorem setLen_fb (n : Nat) (s : State) : (setLen n s).fb = Memory.truncate n s.fb := rfl
@[simp] theorem setLen_prev15 (n : Nat) (s : State) : (setLen n s).prev15 = s.prev15 := rfl
@[simp] theorem setLen_cfg (n : Nat) (s : State) : (setLen n s).cfg = s.cfg := rfl
@[simp] theorem setLen_disp (n : Nat) (s : State) : (setLen n s).disp = s.disp := rfl
@[simp] theorem setLen_params (n : Nat) (s : State) : (setLen n s).params = s.params := rfl
@[simp] theorem setLen_rxq (n : Nat) (s : State) : (setLen n s).rxq = s.rxq := rfl
@[simp] theorem setLen_txs (n : Nat) (s : State) : (setLen n s).txs = s.txs := rfl
@[simp] theorem setLen_now (n : Nat) (s : State) : (setLen n s).now = s.now := rfl
@[simp] theorem setLen_cfgFixed (n : Nat) (s : State) : (setLen n s).cfgFixed = s.cfgFixed := rfl
@[simp] theorem setLen_input (n : Nat) (s : State) : (setLen n s).input = s.input := rfl
@[simp] theorem setLen_convIn (n : Nat) (s : State) : (setLen n s).convIn = s.convIn := rfl
@[simp] theorem setLen_convOut (n : Nat) (s : State) : (setLen n s).convOut = s.convOut := rfl
@[simp] theorem setLen_hostOut (n : Nat) (s : State) : (setLen n s).hostOut = s.hostOut := rfl

/-! fbStore -/

@[simp] theorem fbStore_st (i : Nat) (v : Byte) (s : State) : (fbStore i v s).st = s.st := rfl
@[simp] theorem fbStore_res (i : Nat) (v : Byte) (s : State) : (fbStore i v s).res = s.res := rfl
@[simp] theorem fbStore_fault (i : Nat) (v : Byte) (s : State) : (fbStore i v s).fault = s.fault := rfl
@[simp] theorem fbStore_fcause (i : Nat) (v : Byte) (s : State) : (fbStore i v s).fcause = s.fcause := rfl
@[simp] theorem fbStore_reqReg (i : Nat) (v : Byte) (s : State) : (fbStore i v s).reqReg = s.reqReg := rfl
@[simp] theorem fbStore_tStart (i : Nat) (v : Byte) (s : State) : (fbStore i v s).tStart = s.tStart := rfl
@[simp] theorem fbStore_len (i : Nat) (v : Byte) (s : State) : (fbStore i v s).len = s.len := rfl
@[simp] theorem fbStore_fb (i : Nat) (v : Byte) (s : State) : (fbStore i v s).fb = Memory.write s.fb i v := rfl
@[simp] theorem fbStore_prev15 (i : Nat) (v : Byte) (s : State) : (fbStore i v s).prev15 = s.prev15 := rfl
@[simp] theorem fbStore_cfg (i : Nat) (v : Byte) (s : State) : (fbStore i v s).cfg = s.cfg := rfl
@[simp] theorem fbStore_disp (i : Nat) (v : Byte) (s : State) : (fbStore i v s).disp = s.disp := rfl
@[simp] theorem fbStore_params (i : Nat) (v : Byte) (s : State) : (fbStore i v s).params = s.params := rfl
@[simp] theorem fbStore_rxq (i : Nat) (v : Byte) (s : State) : (fbStore i v s).rxq = s.rxq := rfl
@[simp] theorem fbStore_txs (i : Nat) (v : Byte) (s : State) : (fbStore i v s).txs = s.txs := rfl
@[simp] theorem fbStore_now (i : Nat) (v : Byte) (s : State) : (fbStore i v s).now = s.now := rfl
@[simp] theorem fbStore_cfgFixed (i : Nat) (v : Byte) (s : State) : (fbStore i v s).cfgFixed = s.cfgFixed := rfl
@[simp] theorem fbStore_input (i : Nat) (v : Byte) (s : State) : (fbStore i v s).input = s.input := rfl
@[simp] theorem fbStore_convIn (i : Nat) (v : Byte) (s : State) : (fbStore i v s).convIn = s.convIn := rfl
@[simp] theorem fbStore_convOut (i : Nat) (v : Byte) (s : State) : (fbStore i v s).convOut = s.convOut := rfl
@[simp] theorem fbStore_hostOut (i : Nat) (v : Byte) (s : State) : (fbStore i v s).hostOut = s.hostOut := rfl

/-! appendByte -/

@[simp] theorem appendByte_st (b : Byte) (s : State) : (appendByte b s).st = s.st := rfl
@[simp] theorem appendByte_res (b : Byte) (s : State) : (appendByte b s).res = s.res := rfl
@[simp] theorem appendByte_fault (b : Byte) (s : State) : (appendByte b s).fault = s.fault := rfl
@[simp] theorem appendByte_fcause (b : Byte) (s : State) : (appendByte b s).fcause = s.fcause := rfl
@[simp] theorem appendByte_reqReg (b : Byte) (s : State) : (appendByte b s).reqReg = s.reqReg := rfl
@[simp] theorem appendByte_tStart (b : Byte) (s : State) : (appendByte b s).tStart = s.tStart := rfl
@[simp] theorem appendByte_len (b : Byte) (s : State) : (appendByte b s).len = s.len + 1 := rfl
@[simp] theorem appendByte_fb (b : Byte) (s : State) : (appendByte b s).fb = Memory.write s.fb s.len b := rfl
@[simp] theorem appendByte_prev15 (b : Byte) (s : State) : (appendByte b s).prev15 = s.prev15 := rfl
@[simp] theorem appendByte_cfg (b : Byte) (s : State) : (appendByte b s).cfg = s.cfg := rfl
@[simp] theorem appendByte_disp (b : Byte) (s : State) : (appendByte b s).disp = s.disp := rfl
@[simp] theorem appendByte_params (b : Byte) (s : State) : (appendByte b s).params = s.params := rfl
@[simp] theorem appendByte_rxq (b : Byte) (s : State) : (appendByte b s).rxq = s.rxq := rfl
@[simp] theorem appendByte_txs (b : Byte) (s : State) : (appendByte b s).txs = s.txs := rfl
@[simp] theorem appendByte_now (b : Byte) (s : State) : (appendByte b s).now = s.now := rfl
@[simp] theorem appendByte_cfgFixed (b : Byte) (s : State) : (appendByte b s).cfgFixed = s.cfgFixed := rfl
@[simp] theorem appendByte_input (b : Byte) (s : State) : (appendByte b s).input = s.input := rfl
@[simp] theorem appendByte_convIn (b : Byte) (s : State) : (appendByte b s).convIn = s.convIn := rfl
@[simp] theorem appendByte_convOut (b : Byte) (s : State) : (appendByte b s).convOut = s.convOut := rfl
@[simp] theorem appendByte_hostOut (b : Byte) (s : State) : (appendByte b s).hostOut = s.hostOut := rfl

/-! txPut -/

@[simp] theorem txPut_st (b : Byte) (s : State) : (txPut b s).st = s.st := rfl
@[simp] theorem txPut_res (b : Byte) (s : State) : (txPut b s).res = s.res := rfl
@[simp] theorem txPut_fault (b : Byte) (s : State) : (txPut b s).fault = s.fault := rfl
@[simp] theorem txPut_fcause (b : Byte) (s : State) : (txPut b s).fcause = s.fcause := rfl
@[simp] theorem txPut_reqReg (b : Byte) (s : State) : (txPut b s).reqReg = s.reqReg := rfl
@[simp] theorem txPut_tStart (b : Byte) (s : State) : (txPut b s).tStart = s.tStart := rfl
@[simp] theorem txPut_len (b : Byte) (s : State) : (txPut b s).len = s.len := rfl
@[simp] theorem txPut_fb (b : Byte) (s : State) : (txPut b s).fb = s.fb := rfl
@[simp] theorem txPut_prev15 (b : Byte) (s : State) : (txPut b s).prev15 = s.prev15 := rfl
@[simp] theorem txPut_cfg (b : Byte) (s : State) : (txPut b s).cfg = s.cfg := rfl
@[simp] theorem txPut_disp (b : Byte) (s : State) : (txPut b s).disp = s.disp := rfl
@[simp] theorem txPut_params (b : Byte) (s : State) : (txPut b s).params = s.params := rfl
@[simp] theorem txPut_rxq (b : Byte) (s : State) : (txPut b s).rxq = s.rxq := rfl
@[simp] theorem txPut_txs (b : Byte) (s : State) : (txPut b s).txs = s.txs ++ [b] := rfl
@[simp] theorem txPut_now (b : Byte) (s : State) : (txPut b s).now = s.now := rfl
@[simp] theorem txPut_cfgFixed (b : Byte) (s : State) : (txPut b s).cfgFixed = s.cfgFixed := rfl
@[simp] theorem txPut_input (b : Byte) (s : State) : (txPut b s).input = s.input := rfl
@[simp] theorem txPut_convIn (b : Byte) (s : State) : (txPut b s).convIn = s.convIn := rfl
@[simp] theorem txPut_convOut (b : Byte) (s : State) : (txPut b s).convOut = s.convOut := rfl
@[simp] theorem txPut_hostOut (b : Byte) (s : State) : (txPut b s).hostOut = s.hostOut := rfl

/-! txFlush -/

@[simp] theorem txFlush_st (s : State) : (txFlush s).st = s.st := rfl
@[simp] theorem txFlush_res (s : State) : (txFlush s).res = s.res := rfl
@[simp] theorem txFlush_fault (s : State) : (txFlush s).fault = s.fault := rfl
@[simp] theorem txFlush_fcause (s : State) : (txFlush s).fcause = s.fcause := rfl
@[simp] theorem txFlush_reqReg (s : State) : (txFlush s).reqReg = s.reqReg := rfl
@[simp] theorem txFlush_tStart (s : State) : (txFlush s).tStart = s.tStart := rfl
@[simp] theorem txFlush_len (s : State) : (txFlush s).len = s.len := rfl
@[simp] theorem txFlush_fb (s : State) : (txFlush s).fb = s.fb := rfl
@[simp] theorem txFlush_prev15 (s : State) : (txFlush s).prev15 = s.prev15 := rfl
@[simp] theorem txFlush_cfg (s : State) : (txFlush s).cfg = s.cfg := rfl
@[simp] theorem txFlush_disp (s : State) : (txFlush s).disp = s.disp := rfl
@[simp] theorem txFlush_params (s : State) : (txFlush s).params = s.params := rfl
@[simp] theorem txFlush_rxq (s : State) : (txFlush s).rxq = s.rxq := rfl
@[simp] theorem txFlush_txs (s : State) : (txFlush s).txs = s.txs := rfl
@[simp] theorem txFlush_now (s : State) : (txFlush s).now = s.now := rfl
@[simp] theorem txFlush_cfgFixed (s : State) : (txFlush s).cfgFixed = s.cfgFixed := rfl
@[simp] theorem txFlush_input (s : State) : (txFlush s).input = s.input := rfl
@[simp] theorem txFlush_convIn (s : State) : (txFlush s).convIn = s.convIn := rfl
@[simp] theorem txFlush_convOut (s : State) : (txFlush s).convOut = s.convOut := rfl
@[simp] theorem txFlush_hostOut (s : State) : (txFlush s).hostOut = s.hostOut := rfl

/-! rxAppend -/

@[simp] theorem rxAppend_st (bytes : List Byte) (s : State) : (rxAppend bytes s).st = s.st := rfl
@[simp] theorem rxAppend_res (bytes : List Byte) (s : State) : (rxAppend bytes s).res = s.res := rfl
@[simp] theorem rxAppend_fault (bytes : List Byte) (s : State) : (rxAppend bytes s).fault = s.fault := rfl
@[simp] theorem rxAppend_fcause (bytes : List Byte) (s : State) : (rxAppend bytes s).fcause = s.fcause := rfl
@[simp] theorem rxAppend_reqReg (bytes : List Byte) (s : State) : (rxAppend bytes s).reqReg = s.reqReg := rfl
@[simp] theorem rxAppend_tStart (bytes : List Byte) (s : State) : (rxAppend bytes s).tStart = s.tStart := rfl
@[simp] theorem rxAppend_len (bytes : List Byte) (s : State) : (rxAppend bytes s).len = s.len := rfl
@[simp] theorem rxAppend_fb (bytes : List Byte) (s : State) : (rxAppend bytes s).fb = s.fb := rfl
@[simp] theorem rxAppend_prev15 (bytes : List Byte) (s : State) : (rxAppend bytes s).prev15 = s.prev15 := rfl
@[simp] theorem rxAppend_cfg (bytes : List Byte) (s : State) : (rxAppend bytes s).cfg = s.cfg := rfl
@[simp] theorem rxAppend_disp (bytes : List Byte) (s : State) : (rxAppend bytes s).disp = s.disp := rfl
@[simp] theorem rxAppend_params (bytes : List Byte) (s : State) : (rxAppend bytes s).params = s.params := rfl
@[simp] theorem rxAppend_rxq (bytes : List Byte) (s : State) : (rxAppend bytes s).rxq = s.rxq ++ bytes := rfl
@[simp] theorem rxAppend_txs (bytes : List Byte) (s : State) : (rxAppend bytes s).txs = s.txs := rfl
@[simp] theorem rxAppend_now (bytes : List Byte) (s : State) : (rxAppend bytes s).now = s.now := rfl
@[simp] theorem rxAppend_cfgFixed (bytes : List Byte) (s : State) : (rxAppend bytes s).cfgFixed = s.cfgFixed := rfl
@[simp] theorem rxAppend_input (bytes : List Byte) (s : State) : (rxAppend bytes s).input = s.input := rfl
@[simp] theorem rxAppend_convIn (bytes : List Byte) (s : State) : (rxAppend bytes s).convIn = s.convIn := rfl
@[simp] theorem rxAppend_convOut (bytes : List Byte) (s : State) : (rxAppend bytes s).convOut = s.convOut := rfl
@[simp] theorem rxAppend_hostOut (bytes : List Byte) (s : State) : (rxAppend bytes s).hostOut = s.hostOut := rfl

/-! finish -/

@[simp] theorem finish_st (r : Res) (s : State) : (finish r s).st = .idle := rfl
@[simp] theorem finish_res (r : Res) (s : State) : (finish r s).res = r := rfl
@[simp] theorem finish_fault (r : Res) (s : State) : (finish r s).fault = s.fault := rfl
@[simp] theorem finish_fcause (r : Res) (s : State) : (finish r s).fcause = s.fcause := rfl
@[simp] theorem finish_reqReg (r : Res) (s : State) : (finish r s).reqReg = s.reqReg := rfl
@[simp] theorem finish_tStart (r : Res) (s : State) : (finish r s).tStart = s.tStart := rfl
@[simp] theorem finish_len (r : Res) (s : State) : (finish r s).len = s.len := rfl
@[simp] theorem finish_fb (r : Res) (s : State) : (finish r s).fb = s.fb := rfl
@[simp] theorem finish_prev15 (r : Res) (s : State) : (finish r s).prev15 = s.prev15 := rfl
@[simp] theorem finish_cfg (r : Res) (s : State) : (finish r s).cfg = s.cfg := rfl
@[simp] theorem finish_disp (r : Res) (s : State) : (finish r s).disp = s.disp := rfl
@[simp] theorem finish_params (r : Res) (s : State) : (finish r s).params = s.params := rfl
@[simp] theorem finish_rxq (r : Res) (s : State) : (finish r s).rxq = s.rxq := rfl
@[simp] theorem finish_txs (r : Res) (s : State) : (finish r s).txs = s.txs := rfl
@[simp] theorem finish_now (r : Res) (s : State) : (finish r s).now = s.now := rfl
@[simp] theorem finish_cfgFixed (r : Res) (s : State) : (finish r s).cfgFixed = s.cfgFixed := rfl
@[simp] theorem finish_input (r : Res) (s : State) : (finish r s).input = s.input := rfl
@[simp] theorem finish_convIn (r : Res) (s : State) : (finish r s).convIn = s.convIn := rfl
@[simp] theorem finish_convOut (r : Res) (s : State) : (finish r s).convOut = s.convOut := rfl
@[simp] theorem finish_hostOut (r : Res) (s : State) : (finish r s).hostOut = s.hostOut := rfl

/-! present -/

@[simp] theorem present_st (t : BitVec 32) (s : State) : (present t s).st = s.st := rfl
@[simp] theorem present_res (t : BitVec 32) (s : State) : (present t s).res = s.res := rfl
@[simp] theorem present_fault (t : BitVec 32) (s : State) : (present t s).fault = s.fault := rfl
@[simp] theorem present_fcause (t : BitVec 32) (s : State) : (present t s).fcause = s.fcause := rfl
@[simp] theorem present_reqReg (t : BitVec 32) (s : State) : (present t s).reqReg = s.reqReg := rfl
@[simp] theorem present_tStart (t : BitVec 32) (s : State) : (present t s).tStart = s.tStart := rfl
@[simp] theorem present_len (t : BitVec 32) (s : State) : (present t s).len = s.len := rfl
@[simp] theorem present_fb (t : BitVec 32) (s : State) : (present t s).fb = s.fb := rfl
@[simp] theorem present_prev15 (t : BitVec 32) (s : State) : (present t s).prev15 = s.prev15 := rfl
@[simp] theorem present_cfg (t : BitVec 32) (s : State) : (present t s).cfg = s.cfg := rfl
@[simp] theorem present_disp (t : BitVec 32) (s : State) : (present t s).disp = s.disp := rfl
@[simp] theorem present_params (t : BitVec 32) (s : State) : (present t s).params = s.params := rfl
@[simp] theorem present_rxq (t : BitVec 32) (s : State) : (present t s).rxq = s.rxq := rfl
@[simp] theorem present_txs (t : BitVec 32) (s : State) : (present t s).txs = s.txs := rfl
@[simp] theorem present_now (t : BitVec 32) (s : State) : (present t s).now = t := rfl
@[simp] theorem present_cfgFixed (t : BitVec 32) (s : State) : (present t s).cfgFixed = true := rfl
@[simp] theorem present_input (t : BitVec 32) (s : State) : (present t s).input = s.input := rfl
@[simp] theorem present_convIn (t : BitVec 32) (s : State) : (present t s).convIn = s.convIn := rfl
@[simp] theorem present_convOut (t : BitVec 32) (s : State) : (present t s).convOut = s.convOut := rfl
@[simp] theorem present_hostOut (t : BitVec 32) (s : State) : (present t s).hostOut = s.hostOut := rfl

/-! configure -/

@[simp] theorem configure_st (p : Config.Params) (ds : List RegDef) (s : State) : (configure p ds s).st = s.st := rfl
@[simp] theorem configure_res (p : Config.Params) (ds : List RegDef) (s : State) : (configure p ds s).res = s.res := rfl
@[simp] theorem configure_fault (p : Config.Params) (ds : List RegDef) (s : State) : (configure p ds s).fault = s.fault := rfl
@[simp] theorem configure_fcause (p : Config.Params) (ds : List RegDef) (s : State) : (configure p ds s).fcause = s.fcause := rfl
@[simp] theorem configure_reqReg (p : Config.Params) (ds : List RegDef) (s : State) : (configure p ds s).reqReg = s.reqReg := rfl
@[simp] theorem configure_tStart (p : Config.Params) (ds : List RegDef) (s : State) : (configure p ds s).tStart = s.tStart := rfl
@[simp] theorem configure_len (p : Config.Params) (ds : List RegDef) (s : State) : (configure p ds s).len = s.len := rfl
@[simp] theorem configure_fb (p : Config.Params) (ds : List RegDef) (s : State) : (configure p ds s).fb = s.fb := rfl
@[simp] theorem configure_prev15 (p : Config.Params) (ds : List RegDef) (s : State) : (configure p ds s).prev15 = s.prev15 := rfl
@[simp] theorem configure_cfg (p : Config.Params) (ds : List RegDef) (s : State) : (configure p ds s).cfg = ds := rfl
@[simp] theorem configure_disp (p : Config.Params) (ds : List RegDef) (s : State) : (configure p ds s).disp = List.replicate ds.length [] := rfl
@[simp] theorem configure_params (p : Config.Params) (ds : List RegDef) (s : State) : (configure p ds s).params = p := rfl
@[simp] theorem configure_rxq (p : Config.Params) (ds : List RegDef) (s : State) : (configure p ds s).rxq = s.rxq := rfl
@[simp] theorem configure_txs (p : Config.Params) (ds : List RegDef) (s : State) : (configure p ds s).txs = s.txs := rfl
@[simp] theorem configure_now (p : Config.Params) (ds : List RegDef) (s : State) : (configure p ds s).now = s.now := rfl
@[simp] theorem configure_cfgFixed (p : Config.Params) (ds : List RegDef) (s : State) : (configure p ds s).cfgFixed = true := rfl
@[simp] theorem configure_input (p : Config.Params) (ds : List RegDef) (s : State) : (configure p ds s).input = s.input := rfl
@[simp] theorem configure_convIn (p : Config.Params) (ds : List RegDef) (s : State) : (configure p ds s).convIn = s.convIn := rfl
@[simp] theorem configure_convOut (p : Config.Params) (ds : List RegDef) (s : State) : (configure p ds s).convOut = s.convOut := rfl
@[simp] theorem configure_hostOut (p : Config.Params) (ds : List RegDef) (s : State) : (configure p ds s).hostOut = s.hostOut := rfl

/-! startAttempt -/

@[simp] theorem startAttempt_st (reg : Byte) (s : State) : (startAttempt reg s).st = .sync := rfl
@[simp] theorem startAttempt_res (reg : Byte) (s : State) : (startAttempt reg s).res = .none := rfl
@[simp] theorem startAttempt_fault (reg : Byte) (s : State) : (startAttempt reg s).fault = s.fault := rfl
@[simp] theorem startAttempt_fcause (reg : Byte) (s : State) : (startAttempt reg s).fcause = s.fcause := rfl
@[simp] theorem startAttempt_reqReg (reg : Byte) (s : State) : (startAttempt reg s).reqReg = reg := rfl
@[simp] theorem startAttempt_tStart (reg : Byte) (s : State) : (startAttempt reg s).tStart = s.now := rfl
@[simp] theorem startAttempt_len (reg : Byte) (s : State) : (startAttempt reg s).len = 0 := rfl
@[simp] theorem startAttempt_fb (reg : Byte) (s : State) : (startAttempt reg s).fb = Memory.truncate 0 s.fb := rfl
@[simp] theorem startAttempt_prev15 (reg : Byte) (s : State) : (startAttempt reg s).prev15 = false := rfl
@[simp] theorem startAttempt_cfg (reg : Byte) (s : State) : (startAttempt reg s).cfg = s.cfg := rfl
@[simp] theorem startAttempt_disp (reg : Byte) (s : State) : (startAttempt reg s).disp = s.disp := rfl
@[simp] theorem startAttempt_params (reg : Byte) (s : State) : (startAttempt reg s).params = s.params := rfl
@[simp] theorem startAttempt_rxq (reg : Byte) (s : State) : (startAttempt reg s).rxq = s.rxq := rfl
@[simp] theorem startAttempt_txs (reg : Byte) (s : State) : (startAttempt reg s).txs = s.txs := rfl
@[simp] theorem startAttempt_now (reg : Byte) (s : State) : (startAttempt reg s).now = s.now := rfl
@[simp] theorem startAttempt_cfgFixed (reg : Byte) (s : State) : (startAttempt reg s).cfgFixed = s.cfgFixed := rfl
@[simp] theorem startAttempt_input (reg : Byte) (s : State) : (startAttempt reg s).input = s.input := rfl
@[simp] theorem startAttempt_convIn (reg : Byte) (s : State) : (startAttempt reg s).convIn = s.convIn := rfl
@[simp] theorem startAttempt_convOut (reg : Byte) (s : State) : (startAttempt reg s).convOut = s.convOut := rfl
@[simp] theorem startAttempt_hostOut (reg : Byte) (s : State) : (startAttempt reg s).hostOut = s.hostOut := rfl

/-! resetBlock -/

@[simp] theorem resetBlock_st (s : State) : (resetBlock s).st = .idle := rfl
@[simp] theorem resetBlock_res (s : State) : (resetBlock s).res = .none := rfl
@[simp] theorem resetBlock_fault (s : State) : (resetBlock s).fault = false := rfl
@[simp] theorem resetBlock_fcause (s : State) : (resetBlock s).fcause = .none := rfl
@[simp] theorem resetBlock_reqReg (s : State) : (resetBlock s).reqReg = 0 := rfl
@[simp] theorem resetBlock_tStart (s : State) : (resetBlock s).tStart = 0 := rfl
@[simp] theorem resetBlock_len (s : State) : (resetBlock s).len = 0 := rfl
@[simp] theorem resetBlock_fb (s : State) : (resetBlock s).fb = [] := rfl
@[simp] theorem resetBlock_prev15 (s : State) : (resetBlock s).prev15 = false := rfl
@[simp] theorem resetBlock_cfg (s : State) : (resetBlock s).cfg = s.cfg := rfl
@[simp] theorem resetBlock_disp (s : State) : (resetBlock s).disp = List.replicate s.cfg.length [] := rfl
@[simp] theorem resetBlock_params (s : State) : (resetBlock s).params = s.params := rfl
@[simp] theorem resetBlock_rxq (s : State) : (resetBlock s).rxq = s.rxq := rfl
@[simp] theorem resetBlock_txs (s : State) : (resetBlock s).txs = s.txs := rfl
@[simp] theorem resetBlock_now (s : State) : (resetBlock s).now = s.now := rfl
@[simp] theorem resetBlock_cfgFixed (s : State) : (resetBlock s).cfgFixed = s.cfgFixed := rfl
@[simp] theorem resetBlock_input (s : State) : (resetBlock s).input = s.input := rfl
@[simp] theorem resetBlock_convIn (s : State) : (resetBlock s).convIn = s.convIn := rfl
@[simp] theorem resetBlock_convOut (s : State) : (resetBlock s).convOut = s.convOut := rfl
@[simp] theorem resetBlock_hostOut (s : State) : (resetBlock s).hostOut = s.hostOut := rfl

/-- Sending bytes in order appends them to the transmit stream and does nothing else. -/
theorem txPutAll_eq (bs : List Byte) (s : State) : txPutAll bs s = { s with txs := s.txs ++ bs } := by
  induction bs generalizing s with
  | nil => simp [txPutAll]
  | cons b bs ih => simp [txPutAll, ih, txPut]

/-! txPutAll -/

@[simp] theorem txPutAll_st (bs : List Byte) (s : State) : (txPutAll bs s).st = s.st := by simp [txPutAll_eq]
@[simp] theorem txPutAll_res (bs : List Byte) (s : State) : (txPutAll bs s).res = s.res := by simp [txPutAll_eq]
@[simp] theorem txPutAll_fault (bs : List Byte) (s : State) : (txPutAll bs s).fault = s.fault := by simp [txPutAll_eq]
@[simp] theorem txPutAll_fcause (bs : List Byte) (s : State) : (txPutAll bs s).fcause = s.fcause := by simp [txPutAll_eq]
@[simp] theorem txPutAll_reqReg (bs : List Byte) (s : State) : (txPutAll bs s).reqReg = s.reqReg := by simp [txPutAll_eq]
@[simp] theorem txPutAll_tStart (bs : List Byte) (s : State) : (txPutAll bs s).tStart = s.tStart := by simp [txPutAll_eq]
@[simp] theorem txPutAll_len (bs : List Byte) (s : State) : (txPutAll bs s).len = s.len := by simp [txPutAll_eq]
@[simp] theorem txPutAll_fb (bs : List Byte) (s : State) : (txPutAll bs s).fb = s.fb := by simp [txPutAll_eq]
@[simp] theorem txPutAll_prev15 (bs : List Byte) (s : State) : (txPutAll bs s).prev15 = s.prev15 := by simp [txPutAll_eq]
@[simp] theorem txPutAll_cfg (bs : List Byte) (s : State) : (txPutAll bs s).cfg = s.cfg := by simp [txPutAll_eq]
@[simp] theorem txPutAll_disp (bs : List Byte) (s : State) : (txPutAll bs s).disp = s.disp := by simp [txPutAll_eq]
@[simp] theorem txPutAll_params (bs : List Byte) (s : State) : (txPutAll bs s).params = s.params := by simp [txPutAll_eq]
@[simp] theorem txPutAll_rxq (bs : List Byte) (s : State) : (txPutAll bs s).rxq = s.rxq := by simp [txPutAll_eq]
@[simp] theorem txPutAll_txs (bs : List Byte) (s : State) : (txPutAll bs s).txs = s.txs ++ bs := by simp [txPutAll_eq]
@[simp] theorem txPutAll_now (bs : List Byte) (s : State) : (txPutAll bs s).now = s.now := by simp [txPutAll_eq]
@[simp] theorem txPutAll_cfgFixed (bs : List Byte) (s : State) : (txPutAll bs s).cfgFixed = s.cfgFixed := by simp [txPutAll_eq]
@[simp] theorem txPutAll_input (bs : List Byte) (s : State) : (txPutAll bs s).input = s.input := by simp [txPutAll_eq]
@[simp] theorem txPutAll_convIn (bs : List Byte) (s : State) : (txPutAll bs s).convIn = s.convIn := by simp [txPutAll_eq]
@[simp] theorem txPutAll_convOut (bs : List Byte) (s : State) : (txPutAll bs s).convOut = s.convOut := by simp [txPutAll_eq]
@[simp] theorem txPutAll_hostOut (bs : List Byte) (s : State) : (txPutAll bs s).hostOut = s.hostOut := by simp [txPutAll_eq]

/-- A refusal records the first cause. -/
theorem raiseFault_first (c : FCause) (s : State) (h : s.fault = false) :
    raiseFault c s = { s with fault := true, fcause := c } := by simp [raiseFault, h]

/-- A refusal after a refusal changes nothing. -/
theorem raiseFault_again (c : FCause) (s : State) (h : s.fault = true) : raiseFault c s = s := by
  simp [raiseFault, h]

@[simp] theorem raiseFault_fault (c : FCause) (s : State) : (raiseFault c s).fault = true := by
  unfold raiseFault; split <;> simp_all
@[simp] theorem raiseFault_fcause (c : FCause) (s : State) :
    (raiseFault c s).fcause = if s.fault then s.fcause else c := by
  unfold raiseFault; split <;> rfl
@[simp] theorem raiseFault_st (c : FCause) (s : State) : (raiseFault c s).st = s.st := by
  unfold raiseFault; split <;> rfl
@[simp] theorem raiseFault_res (c : FCause) (s : State) : (raiseFault c s).res = s.res := by
  unfold raiseFault; split <;> rfl
@[simp] theorem raiseFault_reqReg (c : FCause) (s : State) : (raiseFault c s).reqReg = s.reqReg := by
  unfold raiseFault; split <;> rfl
@[simp] theorem raiseFault_tStart (c : FCause) (s : State) : (raiseFault c s).tStart = s.tStart := by
  unfold raiseFault; split <;> rfl
@[simp] theorem raiseFault_len (c : FCause) (s : State) : (raiseFault c s).len = s.len := by
  unfold raiseFault; split <;> rfl
@[simp] theorem raiseFault_fb (c : FCause) (s : State) : (raiseFault c s).fb = s.fb := by
  unfold raiseFault; split <;> rfl
@[simp] theorem raiseFault_prev15 (c : FCause) (s : State) : (raiseFault c s).prev15 = s.prev15 := by
  unfold raiseFault; split <;> rfl
@[simp] theorem raiseFault_cfg (c : FCause) (s : State) : (raiseFault c s).cfg = s.cfg := by
  unfold raiseFault; split <;> rfl
@[simp] theorem raiseFault_disp (c : FCause) (s : State) : (raiseFault c s).disp = s.disp := by
  unfold raiseFault; split <;> rfl
@[simp] theorem raiseFault_params (c : FCause) (s : State) : (raiseFault c s).params = s.params := by
  unfold raiseFault; split <;> rfl
@[simp] theorem raiseFault_rxq (c : FCause) (s : State) : (raiseFault c s).rxq = s.rxq := by
  unfold raiseFault; split <;> rfl
@[simp] theorem raiseFault_txs (c : FCause) (s : State) : (raiseFault c s).txs = s.txs := by
  unfold raiseFault; split <;> rfl
@[simp] theorem raiseFault_now (c : FCause) (s : State) : (raiseFault c s).now = s.now := by
  unfold raiseFault; split <;> rfl
@[simp] theorem raiseFault_cfgFixed (c : FCause) (s : State) : (raiseFault c s).cfgFixed = s.cfgFixed := by
  unfold raiseFault; split <;> rfl
@[simp] theorem raiseFault_input (c : FCause) (s : State) : (raiseFault c s).input = s.input := by
  unfold raiseFault; split <;> rfl
@[simp] theorem raiseFault_convIn (c : FCause) (s : State) : (raiseFault c s).convIn = s.convIn := by
  unfold raiseFault; split <;> rfl
@[simp] theorem raiseFault_convOut (c : FCause) (s : State) : (raiseFault c s).convOut = s.convOut := by
  unfold raiseFault; split <;> rfl
@[simp] theorem raiseFault_hostOut (c : FCause) (s : State) : (raiseFault c s).hostOut = s.hostOut := by
  unfold raiseFault; split <;> rfl

end Sys2Proof.Machine
end

