-- ==== Sys2Proof/Laws/Ops.lean ====
section
/-! SUPPORT. What each shared operation can do, said once: the frame buffer, the receive machine, the
decode engine and the moves of the environment. -/

namespace Sys2Proof.Machine

open Sys2Proof

/-! ### The frame buffer -/

/-- A byte of `FB` is read only below `len`. -/
theorem fbRead_eq_none_of_le {s : State} {i : Nat} (h : s.len ≤ i) : fbRead s i = none := by
  simp [fbRead, Nat.not_lt.mpr h]

theorem fbRead_of_lt {s : State} {i : Nat} (h : i < s.len) : fbRead s i = Memory.read s.fb i := by
  simp [fbRead, h]

/-- Reading `FB` sees only `len` and the memory. -/
theorem fbRead_congr {s t : State} (hlen : s.len = t.len) (hfb : s.fb = t.fb) (i : Nat) :
    fbRead s i = fbRead t i := by simp [fbRead, hlen, hfb]

theorem fbRange_congr {s t : State} (hlen : s.len = t.len) (hfb : s.fb = t.fb) (i n : Nat) :
    fbRange s i n = fbRange t i n := by
  induction n generalizing i with
  | zero => rfl
  | succ n ih => simp [fbRange, fbRead_congr hlen hfb, ih]

/-- The frame held depends only on `len` and the memory. -/
theorem frame_congr {s t : State} (hlen : s.len = t.len) (hfb : s.fb = t.fb) : frame s = frame t := by
  simp [frame, fbRange_congr hlen hfb, hlen]

/-- The bytes `FB[i..i+n)` are a list of `n` bytes, each the byte read at its index. -/
theorem fbRange_eq_some {s : State} {i n : Nat} {f : List Byte} :
    fbRange s i n = some f ↔ f.length = n ∧ ∀ k < n, fbRead s (i + k) = f[k]? := by
  induction n generalizing i f with
  | zero =>
    simp only [fbRange, Option.some.injEq]
    constructor
    · rintro rfl; simp
    · rintro ⟨h, -⟩; exact (List.length_eq_zero_iff.mp h).symm
  | succ n ih =>
    simp only [fbRange]
    constructor
    · intro h
      split at h
      · rename_i b g hb hg
        obtain ⟨hl, hk⟩ := ih.mp hg
        cases h
        refine ⟨by simp [hl], fun k hkn => ?_⟩
        cases k with
        | zero => simpa using hb
        | succ k =>
          have := hk k (by omega)
          rw [show i + (k + 1) = i + 1 + k by omega, this]; simp
      · cases h
    · rintro ⟨hl, hk⟩
      cases f with
      | nil => simp at hl
      | cons b g =>
        have hb : fbRead s i = some b := by simpa using hk 0 (by omega)
        have hg : fbRange s (i + 1) n = some g := by
          refine ih.mpr ⟨by simpa using hl, fun k hkn => ?_⟩
          have := hk (k + 1) (by omega)
          rw [show i + 1 + k = i + (k + 1) by omega, this]; simp
        simp [hb, hg]

/-- The frame held is a list of `len` bytes, each the byte read at its index. -/
theorem frame_eq_some {s : State} {f : List Byte} :
    frame s = some f ↔ f.length = s.len ∧ ∀ k < s.len, fbRead s k = f[k]? := by
  simp [frame, fbRange_eq_some]

/-- A byte of the frame held is a byte read. -/
theorem fbRead_of_frame {s : State} {f : List Byte} (h : frame s = some f) (k : Nat) :
    fbRead s k = f[k]? := by
  obtain ⟨hl, hk⟩ := frame_eq_some.mp h
  by_cases hlt : k < s.len
  · exact hk k hlt
  · rw [fbRead_eq_none_of_le (by omega), List.getElem?_eq_none (by omega)]

/-- If every byte below `len` holds a value, the frame can be read. -/
theorem exists_frame {s : State} (h : ∀ k < s.len, (fbRead s k).isSome) : ∃ f, frame s = some f := by
  suffices H : ∀ n i, i + n ≤ s.len → ∃ f, fbRange s i n = some f by
    exact H s.len 0 (by omega)
  intro n
  induction n with
  | zero => intro i _; exact ⟨[], rfl⟩
  | succ n ih =>
    intro i hi
    obtain ⟨f, hf⟩ := ih (i + 1) (by omega)
    obtain ⟨b, hb⟩ := Option.isSome_iff_exists.mp (h i (by omega))
    exact ⟨b :: f, by simp [fbRange, hb, hf]⟩

/-- A continuation on the frame runs on the frame held. -/
theorem withFrame_of_frame {s : State} {f : List Byte} (h : frame s = some f)
    (k : List Byte → Host.Outcome State Fault Refusal) : withFrame s k = k f := by
  simp [withFrame, h]

/-- If a continuation on the frame answers a next state, there was a frame and it answered that. -/
theorem withFrame_next {s t : State} {k : List Byte → Host.Outcome State Fault Refusal}
    (h : withFrame s k = .next t) : ∃ f, frame s = some f ∧ k f = .next t := by
  unfold withFrame at h
  split at h
  · exact ⟨_, ‹_›, h⟩
  · cases h

/-- If an append answers a next state, there was room and the continuation answered that. -/
theorem withAppended_next {s t : State} {b : Byte} {k : State → Host.Outcome State Fault Refusal}
    (h : withAppended b s k = .next t) :
    s.len < Config.bufCap ∧ k (appendByte b s) = .next t := by
  unfold withAppended at h
  split at h
  · exact ⟨‹_›, h⟩
  · cases h

/-- Appending `b` to a held frame `f` gives the frame `f ++ [b]`. -/
theorem frame_append {s : State} {f : List Byte} (b : Byte) (h : frame s = some f) :
    frame (appendByte b s) = some (f ++ [b]) := by
  obtain ⟨hl, hk⟩ := frame_eq_some.mp h
  refine frame_eq_some.mpr ⟨by simp [hl], fun k hlt => ?_⟩
  rw [appendByte_len] at hlt
  rw [fbRead_of_lt (by simpa using hlt), appendByte_fb]
  by_cases hks : k = s.len
  · subst hks; simp [← hl]
  · have hlt' : k < s.len := by omega
    rw [List.getElem?_append_left (by omega), ← hk k hlt', fbRead_of_lt hlt']
    exact Memory.read_write_other _ _ (Ne.symm hks)

/-- The receive queue gives its head, and only its head. -/
theorem rxPop?_eq_some {s t : State} {b : Byte} (h : rxPop? s = some (b, t)) :
    s.rxq = b :: t.rxq ∧ t = setRxq t.rxq s := by
  unfold rxPop? at h
  split at h
  · cases h
  · cases h; exact ⟨‹_›, rfl⟩

theorem rxPop?_eq_none {s : State} : rxPop? s = none ↔ s.rxq = [] := by
  unfold rxPop?; split <;> simp_all

/-! ### The receive machine -/

/-- Every way `post_append` can answer a next state (R248, R249). -/
theorem postAppend_next {s t : State} (h : postAppend s = .next t) :
    ∃ f, frame s = some f ∧
      ((isErrorFrame f = true ∧ t = finish .errorFrame s) ∨
       (isErrorFrame f = false ∧ expectedLength f ≤ s.len ∧ validate f = true ∧ t = finish .ok s) ∨
       (isErrorFrame f = false ∧ expectedLength f ≤ s.len ∧ validate f = false ∧
          t = finish .badCksum s) ∨
       (isErrorFrame f = false ∧ s.len < expectedLength f ∧ t = s)) := by
  obtain ⟨f, hf, hk⟩ := withFrame_next h
  refine ⟨f, hf, ?_⟩
  split at hk
  · cases hk; simp_all
  · split at hk
    · split at hk
      · cases hk; simp_all
      · cases hk; simp_all
    · cases hk; simp_all

/-- Every way a consumed byte can answer a next state (R241). -/
theorem consumeByte_next {s t : State} {b : Byte} (h : consumeByte b s = .next t) :
    (s.st = .idle ∧ t = s) ∨
    (s.st = .sync ∧ t = syncByte b s) ∨
    (s.st = .hdr ∧ s.len < Config.bufCap ∧ s.len + 1 = 2 ∧
      t = registryCheck b (appendByte b s)) ∨
    (s.st = .hdr ∧ s.len < Config.bufCap ∧ s.len + 1 ≠ 2 ∧
      postAppend (setSt .pay (appendByte b s)) = .next t) ∨
    (s.st = .pay ∧ s.len < Config.bufCap ∧
      postAppend (appendByte b s) = .next t) := by
  unfold consumeByte at h
  split at h
  · cases h; simp_all
  · cases h; simp_all
  · obtain ⟨hc, hk⟩ := withAppended_next h
    by_cases h2 : s.len + 1 = 2
    · rw [appendByte_len, if_pos h2] at hk
      cases hk
      exact .inr (.inr (.inl ⟨‹_›, hc, h2, rfl⟩))
    · rw [appendByte_len, if_neg h2] at hk
      exact .inr (.inr (.inr (.inl ⟨‹_›, hc, h2, hk⟩)))
  · obtain ⟨hc, hk⟩ := withAppended_next h
    exact .inr (.inr (.inr (.inr ⟨‹_›, hc, hk⟩)))

/-- Every way STEP can answer a next state (R241, R304). -/
theorem execStep_next {s t : State} (h : execStep s = .next t) :
    (s.st = .idle ∧ t = s) ∨
    (s.st ≠ .idle ∧ expired s = true ∧ t = finish .timedOut (setLen 0 s)) ∨
    (s.st ≠ .idle ∧ expired s = false ∧ s.rxq = [] ∧ t = s) ∨
    (s.st ≠ .idle ∧ expired s = false ∧
      ∃ b rest, s.rxq = b :: rest ∧ consumeByte b (setRxq rest s) = .next t) := by
  unfold execStep at h
  split at h
  · cases h; exact .inl ⟨‹_›, rfl⟩
  · split at h
    · cases h; exact .inr (.inl ⟨‹_›, ‹_›, rfl⟩)
    · rename_i hne hex
      have hex : expired s = false := by simpa using hex
      split at h
      · cases h; exact .inr (.inr (.inl ⟨hne, hex, rxPop?_eq_none.mp ‹_›, rfl⟩))
      · rename_i b s' hp
        obtain ⟨hq, hs⟩ := rxPop?_eq_some hp
        exact .inr (.inr (.inr ⟨hne, hex, b, s'.rxq, hq, hs ▸ h⟩))

/-! ### The decode engine -/

/-- DECODE keeps the number of entries of `DISP`. -/
@[simp] theorem decodeEntries_length (p : Config.Params) (f : List Byte) (ds : List RegDef)
    (vs : List Str) : (decodeEntries p f ds vs).length = vs.length := by
  induction ds generalizing vs with
  | nil => simp [decodeEntries]
  | cons d ds ih => cases vs <;> simp [decodeEntries, ih]

/-- The new value of an entry is that of its own definition (R282). -/
theorem decodeEntries_getElem? {p : Config.Params} {f : List Byte} {ds : List RegDef} {vs : List Str}
    {i : Nat} {d : RegDef} {v : Str} (hd : ds[i]? = some d) (hv : vs[i]? = some v) :
    (decodeEntries p f ds vs)[i]? = some (decodeEntry p f d v) := by
  induction ds generalizing vs i with
  | nil => simp at hd
  | cons e ds ih =>
    cases vs with
    | nil => simp at hv
    | cons w vs =>
      cases i with
      | zero => simp_all [decodeEntries]
      | succ i => simpa [decodeEntries] using ih (by simpa using hd) (by simpa using hv)

/-- Every way DECODE can answer a next state (R280, R281). -/
theorem execDecode_next {s t : State} (h : execDecode s = .next t) :
    (s.st ≠ .idle ∧ t = raiseFault .busyDecode s) ∨
    (s.st = .idle ∧ ∃ f, frame s = some f ∧
      ((decodable f = true ∧ t = setDisp (decodeEntries s.params f s.cfg s.disp) s) ∨
       (decodable f = false ∧ t = s))) := by
  unfold execDecode at h
  split at h
  · cases h; exact .inl ⟨‹_›, rfl⟩
  · rename_i hst
    obtain ⟨f, hf, hk⟩ := withFrame_next h
    refine .inr ⟨not_not.mp hst, f, hf, ?_⟩
    split at hk
    · cases hk; exact .inl ⟨‹_›, rfl⟩
    · rename_i hd; cases hk; exact .inr ⟨by simpa using hd, rfl⟩

/-- A conversion row always answers, and writes only its result port (R170). -/
theorem convResult_next {s t : State} {out : Str} (h : convResult out s = .next t) :
    t = setConvOut out s := by cases h; rfl

/-! ### The environment -/

/-- Every way a boot can answer a next state (R331, R332). -/
theorem boot_next {p : Config.Params} {rs : List ConfigRecord} {s t : State}
    (h : boot p rs s = .next t) :
    s.cfgFixed = false ∧ p.wf = true ∧ ∃ ds, unpackAll rs = some ds ∧
      t = configure p ds s := by
  unfold boot at h
  split at h
  · cases h
  · split at h
    · cases h
    · split at h
      · cases h
      · cases h; simp_all

/-- A host read changes nothing but what was read (R67). -/
theorem hostRead_next {port : ReadPort} {s t : State} (h : hostRead port s = .next t) :
    t = setHostOut t.hostOut s := by
  unfold hostRead at h
  split at h
  · cases h; rfl
  · cases h; rfl
  · cases h; rfl
  · split at h
    · cases h; rfl
    · cases h
  · split at h
    · cases h; rfl
    · cases h

/-- With no event waiting, a step changes nothing (R313). -/
theorem step_of_no_input {s : State} (h : s.input = []) : step s = .next s := by simp [step, h]

/-- A step runs the next event on the state without it. -/
theorem step_of_event {s : State} {e : Event} {rest : List Event} (h : s.input = e :: rest) :
    step s = runEvent e (setInput rest s) := by simp [step, h]

end Sys2Proof.Machine
end

