-- ==== Sys2Proof/Safety.lean ====
section
/-! DEFINITION. What a safe state and a complete run are, in the terms the claims use: the invariant
of the block (spec/42_receive.md R250 to R253, spec/10_state.md R22 to R28), a run without a host
error (R302) and a complete run (R342). -/

namespace Sys2Proof.Machine

open Sys2Proof

/-- The invariant of the machine: what every state that a run reaches satisfies. -/
structure Inv (s : State) : Prop where
  /-- The bytes of `FB` that hold a value are those below `len`, in order (R26, R36). -/
  memory : s.fb.map Prod.fst = List.range s.len
  /-- `len ≤ 257` (R251). -/
  capacity : s.len ≤ Config.bufCap
  /-- `DISP` has an entry for each entry of `CFG` (R31). -/
  display : s.disp.length = s.cfg.length
  /-- A fault has a cause, and only a fault (R23). -/
  cause : s.fault = true ↔ s.fcause ≠ .none
  /-- In `SYNC` nothing is held (R243). -/
  syncEmpty : s.st = .sync → s.len = 0
  /-- In `HDR` one or two bytes are held (R245, R246). -/
  headerLen : s.st = .hdr → s.len = 1 ∨ s.len = 2
  /-- In `PAY` the header is held, and the frame is not complete (R247, R249). -/
  payloadLen : s.st = .pay →
    Config.headerLength ≤ s.len ∧ ∃ n, fbRead s 2 = some n ∧ s.len < n.toNat + Config.lengthBias
  /-- In `HDR` and `PAY` the first byte held is the marker (R243). -/
  markerFirst : s.st = .hdr ∨ s.st = .pay → fbRead s 0 = some Config.marker
  /-- Past the registry check the second byte held is the requested registry (R245). -/
  registrySecond : (s.st = .hdr ∧ s.len = 2) ∨ s.st = .pay → fbRead s 1 = some s.reqReg
  /-- `res` is `NONE` while an attempt is in progress (R22). -/
  inProgress : s.st ≠ .idle → s.res = .none
  /-- The frame that a complete attempt leaves (R252). -/
  complete : s.st = .idle → s.res = .ok ∨ s.res = .badCksum →
    fbRead s 0 = some Config.marker ∧ fbRead s 1 = some s.reqReg ∧
      ∃ n, fbRead s 2 = some n ∧ s.len = max Config.headerLength (n.toNat + Config.lengthBias)
  /-- `OK` means a frame that validates (R249, R252). -/
  okValid : s.res = .ok → ∃ f, frame s = some f ∧ validate f = true
  /-- `BAD_CKSUM` means a frame that does not (R249). -/
  badInvalid : s.res = .badCksum → ∃ f, frame s = some f ∧ validate f = false
  /-- `ERROR_FRAME` is an outcome only under `P_ERR_IN_SYNC = 1`, and leaves the error pair (R244,
  R253). -/
  errorPair : s.res = .errorFrame →
    s.params.pErrInSync = true ∧ frame s = some [Config.errorFirst, Config.errorSecond]
  /-- `TIMED_OUT` leaves nothing held (R242). -/
  timedOutEmpty : s.res = .timedOut → s.len = 0
  /-- Nothing is held before the first attempt (R35). -/
  noAttemptEmpty : s.st = .idle → s.res = .none → s.len = 0
  /-- The reserved value `MISMATCH` is never written (R250). -/
  noMismatch : s.res ≠ .mismatch
  /-- Before the boot and the first command no attempt has been made (R332). -/
  notStarted : s.cfgFixed = false → s.st = .idle ∧ s.res = .none
  /-- The two characters of the alphabets that the document fixes (R217). -/
  alphabets : s.params.wf = true

/-- A run ends complete when it ends in `IDLE` (R342). -/
def CompleteRun (s : State) : Prop := s.st = .idle

/-- The host has broken none of the duties the block can see (R302, R314). -/
def FaultFree (s : State) : Prop := s.fault = false

/-- The move is one the spec admits in every run at any time: a command, bytes of the device, or a
reset (R314, R342); or a slice presented to the Value Conversion Table, which is the model's own move (log
entry 4). A boot and a host read have conditions of their own (R36, R70, R111, R337). -/
def Event.unconditional : Event → Bool
  | .command _ _ | .rx _ | .reset | .convert _ _ => true
  | .boot _ _ | .read _ => false

end Sys2Proof.Machine
end

