-- ==== Sys2Proof/Certificates/Slice0/Obligations.lean ====
section
/-! DEFINITION. The statements for the provers, each `def Obligations.<Name> : Prop`, listed in
OBLIGATIONS.json with the rules of spec/ they formalise, and the terms they are stated in. -/

namespace Sys2Proof.Claims

open Sys2Proof Sys2Proof.Machine

/-- A conversion instruction answers `out`: the next state has `out` on the result port and is
otherwise unchanged, memory included. The ports on which a conversion row finds its slice and shows
its string are the model's own (log entry 4); the string is the rule's. -/
def Answers (i : Instr) (s : State) (out : Str) : Prop := exec i s = .next { s with convOut := out }

/-- The unsigned value of a slice, low byte first (R171), by arithmetic. -/
def unsignedLe : Slice → Nat
  | .one a => a.toNat
  | .two a b => b.toNat * 256 + a.toNat

/-- The unsigned value of a slice, high byte first (R171), by arithmetic. -/
def unsignedBe : Slice → Nat
  | .one a => a.toNat
  | .two a b => a.toNat * 256 + b.toNat

/-- The two's-complement value of a pattern of a slice's width (R9), by arithmetic. -/
def toSigned : Slice → Nat → Int
  | .one _, v => if v < 128 then v else v - 256
  | .two _ _, v => if v < 32768 then v else v - 65536

/-- The signed value of a slice, low byte first (R171). -/
def signedLe (s : Slice) : Int := toSigned s (unsignedLe s)

/-- The signed value of a slice, high byte first (R171). -/
def signedBe (s : Slice) : Int := toSigned s (unsignedBe s)

/-- The first byte of a slice as a number. -/
def firstByte : Slice → Nat
  | .one a => a.toNat
  | .two a _ => a.toNat

/-- `render` of a curve result, or the free string where it is not finite (R218). -/
def curveText (code : BitVec 16) (s : Slice) (x : Binary64) : Str :=
  match binary64Value (Config.ptEval x) with
  | some v => render v
  | none => Config.nonFiniteText code s (Config.ptEval x)

/-- The elapsed time of the attempt in milliseconds (R242), by arithmetic. -/
def elapsedMs (s : State) : Nat := (s.now.toNat + 2 ^ 32 - s.tStart.toNat) % 2 ^ 32

/-- The deadline of the attempt is not reached (R242). -/
def BeforeDeadline (s : State) : Prop := elapsedMs s < s.params.tTimeout.toNat

/-- The state in which a refused command leaves the machine: the first cause recorded (R302). -/
def Refused (c : FCause) (s : State) : State :=
  { s with fault := true, fcause := if s.fault then s.fcause else c }

/-- The guards of DECODE on a frame, in the words of R281. -/
def Decodable (f : List Byte) : Prop :=
  f[0]? = some 0x40 ∧ validate f = true ∧ ¬ (f[0]? = some 0x15 ∧ f[1]? = some 0xEA) ∧ 6 ≤ f.length

/-- STEPs at the given times, one after the other, stopping at the first that does not answer a next
state. -/
def stepsAt : List (BitVec 32) → State → Host.Outcome State Fault Refusal
  | [], s => .next s
  | τ :: τs, s =>
    match exec .step { s with now := τ } with
    | .next t => stepsAt τs t
    | .fault r => .fault r
    | .refused r => .refused r

/-- The value of a string of decimal digits. -/
def decimalValue (t : Str) : Nat := t.foldl (fun v c => 10 * v + (c.toNat - 48)) 0

/-- A byte that is an ASCII decimal digit. -/
def IsDigit (c : Byte) : Prop := 48 ≤ c.toNat ∧ c.toNat ≤ 57

/-- The rational number that an exact value stands for (R9). -/
def value (v : Exact) : ℚ := v.num / v.den

/-- The integer `m` is `x` rounded to nearest, ties to even. -/
def RoundsTo (x : ℚ) (m : ℕ) : Prop := 2 * |m - x| ≤ 1 ∧ (2 * |m - x| = 1 → m % 2 = 0)

/-- `"-"` before a negative value, nothing before any other (R173). -/
def signOf (v : Exact) : Str := if v.num < 0 then ascii "-" else []

/-- A whole number with the digits after its point, and no point where there are none (R173). -/
def pointed (whole : ℕ) (frac : Str) : Str :=
  dec whole ++ if frac = [] then [] else ascii "." ++ frac

/-- The number that `pointed` spells. -/
def pointedValue (whole : ℕ) (frac : Str) : ℚ := whole + decimalValue frac / 10 ^ frac.length

/-- The exponent as R173 spells it: a sign, and at least two digits. -/
def exponentText (e : ℤ) : Str :=
  ascii "e" ++ (if e < 0 then ascii "-" else ascii "+") ++
    if e.natAbs < 10 then ascii "0" ++ dec e.natAbs else dec e.natAbs

end Sys2Proof.Claims

open Sys2Proof Sys2Proof.Machine Sys2Proof.Claims

/-! ### Encodings -/

/-- R107 to R109, R112, R113: decoding the word of a well-formed instruction gives it back. -/
def Obligations.DecodeOfEncodeIsIdentity : Prop := ∀ i : Instr, i.wf = true → decode (encode i) = i

/-- R109, R113, R114: every word of both spaces decodes to a well-formed instruction, whose word it
is. -/
def Obligations.EncodeOfDecodeIsIdentity : Prop :=
  ∀ w : InstrWord, (decode w).wf = true ∧ encode (decode w) = w

/-- Words written out from R112, R113 and R108. -/
def Obligations.SampleWordsDecode : Prop :=
  decode (.command 0b0000000000#10) = .step ∧
  decode (.command 0b0100010000#10) = .request 0x10 ∧
  decode (.command 0b1000000000#10) = .decode ∧
  decode (.command 0b1100000101#10) = .reservedK3 0x05 ∧
  decode (.command 0b0000000001#10) = .reservedStepData 0x01 ∧
  decode (.command 0b1011111111#10) = .reservedDecodeData 0xFF ∧
  decode (.conversion 0x0069#16) = .conv105 ∧
  decode (.conversion 0x0138#16) = .conv312 ∧
  decode (.conversion 0x0134#16) = .convOther 308

/-- R110, R111: a packed definition unpacks to itself, a record unpacks iff its reserved bits are zero,
an unpacked record packs to itself, and its fields are those of the layout of R110, by arithmetic on the
word. -/
def Obligations.ConfigRecordPacking : Prop :=
  (∀ d : RegDef, RegDef.unpack d.pack = some d) ∧
  (∀ r : ConfigRecord, RegDef.unpack r = none ↔ r.word.extractLsb' 25 7 ≠ 0) ∧
  (∀ (r : ConfigRecord) (d : RegDef), RegDef.unpack r = some d → d.pack = r ∧
    d.mode.toNat = r.word.toNat % 2 ^ 8 ∧
    d.registryID.toNat = r.word.toNat / 2 ^ 8 % 2 ^ 8 ∧
    d.offset.toNat = r.word.toNat / 2 ^ 16 % 2 ^ 8 ∧
    d.byteCount.toNat = r.word.toNat / 2 ^ 24 % 2 + 1 ∧
    d.conversionCode.toNat = r.word.toNat / 2 ^ 32 ∧
    d.label = r.label)

/-- A step whose next event is a word that decodes to `i` runs `i` on the state without the event: for
a command, with its time value presented and the configuration fixed from now on; for a conversion
code, with the slice on the operand port. -/
def Obligations.StepRunsDecodedInstruction : Prop :=
  ∀ (s : State) (i : Instr) (rest : List Event), i.wf = true →
    (∀ w t, decode (.command w) = i → s.input = .command w t :: rest →
      step s = exec i { s with input := rest, now := t, cfgFixed := true }) ∧
    (∀ code sl, decode (.conversion code) = i → s.input = .convert code sl :: rest →
      step s = exec i { s with input := rest, convIn := sl })

/-! ### Checksum and frame accessors -/

/-- R140: the checksum by arithmetic. -/
def Obligations.ChecksumIsComplementOfSum : Prop :=
  ∀ b : List Byte, (checksum b).toNat = 255 - (b.map BitVec.toNat).sum % 256

/-- R141. -/
def Obligations.ValidateIffLastIsChecksum : Prop :=
  ∀ f : List Byte, validate f = true ↔ ∃ b, b ≠ [] ∧ f = b ++ [checksum b]

/-- R101, R142, R149. -/
def Obligations.RequestFrameIsValid : Prop :=
  ∀ r : Byte, makeRequest r = [0x03, 0x40, r, ~~~ (0x03 + 0x40 + r)] ∧ validate (makeRequest r) = true

/-- R143 to R147. -/
def Obligations.FrameAccessors : Prop :=
  ∀ f : List Byte,
    (hasMinimalHeader f = true ↔ 3 ≤ f.length) ∧
    expectedLength f = (match f[2]? with | some n => n.toNat + 2 | none => 0) ∧
    (isErrorFrame f = true ↔ f[0]? = some 0x15 ∧ f[1]? = some 0xEA) ∧
    (isValidProtocol f = true ↔ f[0]? = some 0x40) ∧
    registryID f = f[1]?.getD 0

/-! ### Commands that are refused -/

/-- R150, R280, R302: REQUEST and DECODE during an attempt record the fault and do nothing else. -/
def Obligations.BusyCommandsAreRefused : Prop :=
  ∀ (s : State) (reg : Byte), s.st ≠ .idle →
    exec (.request reg) s = .next (Refused .busyRequest s) ∧
    exec .decode s = .next (Refused .busyDecode s)

/-- R113: a reserved command word (kind `11`, or kind `00` or `10` with data that is not zero) records
the fault and does nothing else, in every state; so do the three instructions it decodes to. -/
def Obligations.ReservedWordsOnlyRecordFault : Prop :=
  ∀ s : State,
    (∀ w : BitVec 10,
      w.toNat / 256 = 3 ∨ (w.toNat / 256 = 0 ∨ w.toNat / 256 = 2) ∧ w.toNat % 256 ≠ 0 →
      exec (decode (.command w)) s = .next (Refused .reservedCmd s)) ∧
    (∀ d : Byte,
      exec (.reservedK3 d) s = .next (Refused .reservedCmd s) ∧
      exec (.reservedStepData d) s = .next (Refused .reservedCmd s) ∧
      exec (.reservedDecodeData d) s = .next (Refused .reservedCmd s))

/-- R302, R330: no instruction clears the fault or changes the first cause, and no step does but a
reset. -/
def Obligations.FirstFaultCauseIsKept : Prop :=
  ∀ s t : State, s.fault = true →
    (∀ i : Instr, exec i s = .next t → t.fault = true ∧ t.fcause = s.fcause) ∧
    ((∀ rest, s.input ≠ .reset :: rest) → step s = .next t → t.fault = true ∧ t.fcause = s.fcause)

/-! ### REQUEST -/

/-- R150: in `IDLE`, REQUEST sends the four bytes and starts a fresh attempt; nothing is held any
more, and nothing else changes. During an attempt it is refused. -/
def Obligations.RequestStartsAttempt : Prop :=
  ∀ (s : State) (reg : Byte),
    (s.st ≠ .idle → exec (.request reg) s = .next (Refused .busyRequest s)) ∧
    (s.st = .idle → ∃ t, exec (.request reg) s = .next t ∧
      t = { s with
            txs := s.txs ++ [0x03, 0x40, reg, ~~~ (0x03 + 0x40 + reg)]
            reqReg := reg, len := 0, fb := t.fb, prev15 := false, tStart := s.now, res := .none
            st := .sync } ∧
      ∀ a, fbRead t a = none)

/-! ### STEP -/

/-- R241, R255, R313: STEP in `IDLE`, and STEP before the deadline with an empty queue, change
nothing. -/
def Obligations.StepWithNothingToDo : Prop :=
  ∀ s : State, s.st = .idle ∨ (BeforeDeadline s ∧ s.rxq = []) → exec .step s = .next s

/-- R242, R304: at or past the deadline the attempt ends, before any byte is read. -/
def Obligations.StepPastDeadlineTimesOut : Prop :=
  ∀ s : State, s.st ≠ .idle → ¬ BeforeDeadline s →
    ∃ t, exec .step s = .next t ∧
      t = { s with st := .idle, res := .timedOut, len := 0, fb := t.fb } ∧ ∀ a, fbRead t a = none

/-- R243: in `SYNC` the marker synchronises, and only it is held from now on; any other byte is
discarded, which changes only `prev15`, unless it completes an error pair that is looked for. -/
def Obligations.StepSynchronises : Prop :=
  ∀ (s : State) (b : Byte) (rest : List Byte), s.st = .sync → BeforeDeadline s → s.rxq = b :: rest →
    (b = 0x40 → ∃ t, exec .step s = .next t ∧
      t = { s with st := .hdr, len := 1, fb := t.fb, prev15 := false, rxq := rest } ∧
      fbRead t 0 = some 0x40 ∧ ∀ a, a ≠ 0 → fbRead t a = none) ∧
    (b ≠ 0x40 → ¬ (s.params.pErrInSync = true ∧ s.prev15 = true ∧ b = 0xEA) →
      exec .step s = .next { s with rxq := rest, prev15 := decide (b = 0x15) })

/-- R244: in `SYNC`, 0xEA after a discarded 0x15 ends the attempt with `ERROR_FRAME` and leaves the
pair held, under `P_ERR_IN_SYNC = 1` only. -/
def Obligations.StepErrorPairEndsAttempt : Prop :=
  ∀ (s : State) (rest : List Byte), s.st = .sync → BeforeDeadline s → s.rxq = 0xEA :: rest →
    (s.params.pErrInSync = true → s.prev15 = true → ∃ t, exec .step s = .next t ∧
      t = { s with
            st := .idle, res := .errorFrame, len := 2, fb := t.fb, prev15 := false, rxq := rest } ∧
      fbRead t 0 = some 0x15 ∧ fbRead t 1 = some 0xEA ∧ ∀ a, 2 ≤ a → fbRead t a = none) ∧
    (s.params.pErrInSync = false ∨ s.prev15 = false →
      exec .step s = .next { s with rxq := rest, prev15 := false })

/-- R245: with the marker held, a registry byte that does not match discards the partial buffer and
returns to `SYNC`, and the attempt and its start time go on; one that matches is kept at `FB[1]` and
the state stays `HDR`. -/
def Obligations.StepChecksRegistry : Prop :=
  ∀ (s : State) (b : Byte) (rest : List Byte), s.st = .hdr → s.len = 1 → BeforeDeadline s →
    s.rxq = b :: rest →
    ∃ t, exec .step s = .next t ∧
      (b ≠ s.reqReg →
        t = { s with st := .sync, len := 0, fb := t.fb, prev15 := decide (b = 0x15), rxq := rest } ∧
        ∀ a, fbRead t a = none) ∧
      (b = s.reqReg →
        t = { s with len := 2, fb := t.fb, rxq := rest } ∧
        fbRead t 1 = some b ∧ ∀ a, a ≠ 1 → fbRead t a = fbRead s a)

/-- R246 to R249: past the registry check a consumed byte is appended at `FB[len]`; the attempt ends
when `len` reaches `FB[2] + 2`, with `OK` iff the byte is the checksum of the bytes before it, and goes
on in `PAY` otherwise. -/
def Obligations.StepAppendsAndCompletes : Prop :=
  ∀ (s : State) (f : List Byte) (b : Byte) (rest : List Byte), Inv s →
    (s.st = .hdr ∧ s.len = 2) ∨ s.st = .pay → frame s = some f → BeforeDeadline s →
    s.rxq = b :: rest →
    ∃ t n, exec .step s = .next t ∧ (f ++ [b])[2]? = some n ∧ frame t = some (f ++ [b]) ∧
      (∀ a, a ≠ s.len → fbRead t a = fbRead s a) ∧
      t = (if n.toNat + 2 ≤ s.len + 1 then
            { s with
              st := .idle, res := if checksum f = b then .ok else .badCksum, len := s.len + 1
              fb := t.fb, rxq := rest }
          else { s with st := .pay, len := s.len + 1, fb := t.fb, rxq := rest })

/-- R241: STEP never faults, in any state that a run reaches. -/
def Obligations.StepNeverFaults : Prop := ∀ s : State, Inv s → ∃ t, exec .step s = .next t

/-- R241, R66, R72: what STEP leaves alone. In every state it writes no other field, takes at most one
byte, the head of the receive queue, and sends none. Under the invariant every byte held before and
after is the same byte: what STEP stores lies at `FB[len]`, and it is the one byte consumed, unless an
error pair ends the attempt with the two bytes of the pair at indices 0 and 1 (R244). -/
def Obligations.StepFrame : Prop :=
  ∀ s t : State, exec .step s = .next t →
    t = { s with
          st := t.st, res := t.res, len := t.len, fb := t.fb, prev15 := t.prev15, rxq := t.rxq } ∧
    (t.rxq = s.rxq ∨ ∃ b, s.rxq = b :: t.rxq) ∧
    (Inv s →
      (∀ a, a < s.len → a < t.len → fbRead t a = fbRead s a) ∧
      (t.len ≤ s.len ∨
        (t.len = s.len + 1 ∧ ∃ b, s.rxq = b :: t.rxq ∧ fbRead t s.len = some b) ∨
        (t.res = .errorFrame ∧ s.len = 0 ∧ frame t = some [0x15, 0xEA])))

/-- R253: with `P_ERR_IN_SYNC = 0` no STEP of an attempt ends it with `ERROR_FRAME`. -/
def Obligations.NoErrorFrameByDefault : Prop :=
  ∀ s t : State, Inv s → s.params.pErrInSync = false → exec .step s = .next t → t.res ≠ .errorFrame

/-! ### DECODE -/

/-- R281: in `IDLE`, a frame that fails a guard leaves everything as it is. -/
def Obligations.DecodeGuardFailureChangesNothing : Prop :=
  ∀ (s : State) (f : List Byte), s.st = .idle → frame s = some f → ¬ Decodable f →
    exec .decode s = .next s

/-- R280, R282 to R285: DECODE changes nothing but `DISP`, and an entry of `DISP` only where the
registry matches: to the empty string when the slice passes the end of the frame, else to the
converted slice. -/
def Obligations.DecodeWritesMatchingEntries : Prop :=
  ∀ (s : State) (f : List Byte), s.st = .idle → frame s = some f → Decodable f →
    ∃ t, exec .decode s = .next t ∧ t = { s with disp := t.disp } ∧ t.disp.length = s.disp.length ∧
      ∀ (i : Nat) (d : RegDef) (v : Str), s.cfg[i]? = some d → s.disp[i]? = some v →
        (some d.registryID ≠ f[1]? → t.disp[i]? = some v) ∧
        (some d.registryID = f[1]? → s.len < 3 + d.offset.toNat + d.byteCount.toNat →
          t.disp[i]? = some []) ∧
        (∀ s0, some d.registryID = f[1]? → d.byteCount = .one → f[3 + d.offset.toNat]? = some s0 →
          t.disp[i]? = some (convert s.params d.conversionCode (.one s0))) ∧
        (∀ s0 s1, some d.registryID = f[1]? → d.byteCount = .two →
          f[3 + d.offset.toNat]? = some s0 → f[3 + d.offset.toNat + 1]? = some s1 →
          t.disp[i]? = some (convert s.params d.conversionCode (.two s0 s1)))

/-- R286. -/
def Obligations.DecodeIsIdempotent : Prop :=
  ∀ s t : State, exec .decode s = .next t → exec .decode t = .next t

/-- R287: after `BAD_CKSUM`, `TIMED_OUT` and `ERROR_FRAME` DECODE leaves every entry as it was. -/
def Obligations.DecodeAfterFailedAttempt : Prop :=
  ∀ s : State, Inv s → s.res = .badCksum ∨ s.res = .timedOut ∨ s.res = .errorFrame →
    exec .decode s = .next s

/-- R289: DECODE does not read `mode`. -/
def Obligations.DecodeIgnoresMode : Prop :=
  ∀ (s t : State) (m : Byte), exec .decode s = .next t →
    exec .decode { s with cfg := s.cfg.map fun d => { d with mode := m } } =
      .next { t with cfg := s.cfg.map fun d => { d with mode := m } }

/-! ### Rules of the whole machine -/

/-- R250: no instruction writes the reserved outcome `MISMATCH`. -/
def Obligations.MismatchIsNeverWritten : Prop :=
  ∀ (i : Instr) (s t : State), exec i s = .next t → s.res ≠ .mismatch → t.res ≠ .mismatch

/-- R34, R60: only REQUEST and STEP write the receive state, the frame buffer and the two streams. -/
def Obligations.OnlyRequestAndStepReceive : Prop :=
  ∀ (i : Instr) (s t : State), exec i s = .next t → i ≠ .step → (∀ reg, i ≠ .request reg) →
    t.st = s.st ∧ t.res = s.res ∧ t.reqReg = s.reqReg ∧ t.tStart = s.tStart ∧ t.prev15 = s.prev15 ∧
      t.rxq = s.rxq ∧ t.txs = s.txs ∧ t.len = s.len ∧ ∀ a, fbRead t a = fbRead s a

/-- R31, R37, R60: only DECODE writes `DISP`, and no instruction writes `CFG` or a parameter. -/
def Obligations.OnlyDecodeWritesDisplay : Prop :=
  ∀ (i : Instr) (s t : State), exec i s = .next t →
    (i ≠ .decode → t.disp = s.disp) ∧ t.cfg = s.cfg ∧ t.params = s.params

/-! ### The Value Conversion Table -/

/-- R170: running the row of a code answers exactly what DECODE writes for that code and slice. -/
def Obligations.ConversionRowsAreConvert : Prop :=
  ∀ (code : BitVec 16) (s : State),
    Answers (decode (.conversion code)) s (convert s.params code s.convIn)

/-- R176, R177, R215: no conversion, the bytes verbatim, and the diagnostic string. -/
def Obligations.PlainCodes : Prop :=
  ∀ (s : State) (s0 s1 : Byte) (code : BitVec 16),
    Answers .conv0 s [] ∧
    Answers .conv100 { s with convIn := .one s0 } [s0] ∧
    Answers .conv100 { s with convIn := .two s0 s1 } [s0, s1] ∧
    Answers (.convOther code) s (ascii "Conv " ++ dec code.toNat ++ ascii " NA")

/-- R178 to R183: the signed codes. -/
def Obligations.SignedCodes : Prop :=
  ∀ s : State,
    Answers .conv101 s (render ⟨signedLe s.convIn, 1⟩) ∧
    Answers .conv102 s (render ⟨signedBe s.convIn, 1⟩) ∧
    Answers .conv103 s (render ⟨signedLe s.convIn, 256⟩) ∧
    Answers .conv104 s (render ⟨signedBe s.convIn, 256⟩) ∧
    Answers .conv105 s (render ⟨signedLe s.convIn, 10⟩) ∧
    Answers .conv106 s (render ⟨signedBe s.convIn, 10⟩)

/-- R184, R185: the signed codes with the sentinel. -/
def Obligations.SentinelCodes : Prop :=
  ∀ s : State,
    Answers .conv107 s
      (if signedLe s.convIn = -32768 then ascii "---" else render ⟨signedLe s.convIn, 10⟩) ∧
    Answers .conv108 s
      (if signedBe s.convIn = -32768 then ascii "---" else render ⟨signedBe s.convIn, 10⟩)

/-- R186 to R191: the unsigned codes. -/
def Obligations.UnsignedCodes : Prop :=
  ∀ s : State,
    Answers .conv151 s (render ⟨unsignedLe s.convIn, 1⟩) ∧
    Answers .conv152 s (render ⟨unsignedBe s.convIn, 1⟩) ∧
    Answers .conv153 s (render ⟨unsignedLe s.convIn, 256⟩) ∧
    Answers .conv154 s (render ⟨unsignedBe s.convIn, 256⟩) ∧
    Answers .conv155 s (render ⟨unsignedLe s.convIn, 10⟩) ∧
    Answers .conv156 s (render ⟨unsignedBe s.convIn, 10⟩)

/-- R192, R193, R197: the boolean, the status enum, and off or number, the number in plain decimal
digits. -/
def Obligations.SymbolicByteCodes : Prop :=
  ∀ s : State,
    Answers .conv200 s (if firstByte s.convIn = 0 then ascii "OFF" else ascii "ON") ∧
    Answers .conv203 s
      (match firstByte s.convIn with
        | 0 => ascii "Normal" | 1 => ascii "Error" | 2 => ascii "Warning" | 3 => ascii "Caution"
        | _ => ascii "-") ∧
    Answers .conv211 s
      (if firstByte s.convIn = 0 then ascii "OFF" else dec (firstByte s.convIn))

/-- R194 to R196, for every choice of the tables that R216 and R217 leave open. -/
def Obligations.TableCodes : Prop :=
  ∀ (s : State) (hi lo : Byte) (mode : Str),
    (s.params.alphaHi[firstByte s.convIn / 16]? = some hi →
      s.params.alphaLo[firstByte s.convIn % 16]? = some lo → Answers .conv204 s [hi, lo]) ∧
    (s.params.modeNames[firstByte s.convIn]? = some mode →
      Answers .conv201 s mode ∧ Answers .conv217 s mode) ∧
    (19 ≤ firstByte s.convIn → Answers .conv201 s (ascii "-") ∧ Answers .conv217 s (ascii "-"))

/-- R198 to R205: the bit flags. -/
def Obligations.FlagCodes : Prop :=
  ∀ s : State,
    let flag (k : Nat) : Str :=
      if firstByte s.convIn / 2 ^ k % 2 = 1 then ascii "ON" else ascii "OFF"
    Answers .conv300 s (flag 0) ∧ Answers .conv301 s (flag 1) ∧ Answers .conv302 s (flag 2) ∧
    Answers .conv303 s (flag 3) ∧ Answers .conv304 s (flag 4) ∧ Answers .conv305 s (flag 5) ∧
    Answers .conv306 s (flag 6) ∧ Answers .conv307 s (flag 7)

/-- R174, R206: code 312 under both forms of its magnitude, with `"-0"` for the byte 0x80. -/
def Obligations.SignMagnitudeCode : Prop :=
  ∀ s : State,
    let b := firstByte s.convIn
    let sign : Str := if 128 ≤ b then ascii "-" else []
    let m := b / 16 % 8
    let l := b % 16
    (s.params.f312Form = .sum → Answers .conv312 s (sign ++ render ⟨(m : Int) + l, 16⟩)) ∧
    (s.params.f312Form = .intFrac → Answers .conv312 s (sign ++ render ⟨16 * (m : Int) + l, 16⟩)) ∧
    (b = 128 → Answers .conv312 s (ascii "-0"))

/-- R207, R208: the high-nibble enums. -/
def Obligations.HighNibbleCodes : Prop :=
  ∀ s : State,
    Answers .conv315 s
      (match firstByte s.convIn / 16 with
        | 0 => ascii "Stop" | 1 => ascii "Heating" | 2 => ascii "Cooling" | 4 => ascii "DHW"
        | 5 => ascii "Heating + DHW" | 6 => ascii "Cooling + DHW" | _ => ascii "-") ∧
    Answers .conv316 s
      (match firstByte s.convIn / 16 with
        | 0 => ascii "H/P only" | 1 => ascii "Hybrid" | 2 => ascii "Boiler only"
        | _ => ascii "Unknown")

/-- R209 to R214, for every curve: the input of the curve and the rendering of its result. The input of
codes 405 and 406 is the product with the binary64 value nearest to 1/10, rounded (D41). -/
def Obligations.CurveCodes : Prop :=
  ∀ s : State,
    Answers .conv401 s (curveText 401 s.convIn (fl ⟨signedLe s.convIn, 1⟩)) ∧
    Answers .conv402 s (curveText 402 s.convIn (fl ⟨signedBe s.convIn, 1⟩)) ∧
    Answers .conv403 s (curveText 403 s.convIn (fl ⟨signedLe s.convIn, 256⟩)) ∧
    Answers .conv404 s (curveText 404 s.convIn (fl ⟨signedBe s.convIn, 256⟩)) ∧
    ∃ tenth, binary64Value (fl ⟨1, 10⟩) = some tenth ∧
      Answers .conv405 s
        (curveText 405 s.convIn (fl ⟨signedLe s.convIn * tenth.num, tenth.den⟩)) ∧
      Answers .conv406 s
        (curveText 406 s.convIn (fl ⟨signedBe s.convIn * tenth.num, tenth.den⟩))

/-- G5 of 93_implementation_defined.md: `raw` and `raw / 256` are exact in binary64. -/
def Obligations.CurveInputsAreExact : Prop :=
  ∀ (n : Int) (d : Nat), n.natAbs < 2 ^ 53 → d = 1 ∨ d = 256 →
    ∃ v, binary64Value (fl ⟨n, d⟩) = some v ∧ v.num * d = n * v.den

/-! ### Rendering -/

/-- R9: `dec` spells a number in decimal digits, without a leading zero, and reads back as it. -/
def Obligations.DecimalSpelling : Prop :=
  ∀ n : Nat, (∀ c ∈ dec n, IsDigit c) ∧ decimalValue (dec n) = n ∧ (dec n).head? ≠ none ∧
    ((dec n).head? = some 0x30 → n = 0)

/-- R173 and G5: the two roundings are to nearest, ties to even. That of `render` gives the integer
next to a quotient; that of `fl`, in the range of normal binary64 numbers, gives the multiple of
`2^(e-52)` next to a value between `2^e` and `2^(e+1)`, with its sign. Binary64 is PRESUMED (log entry
10), and so is the rounding of `%g` (log entry 9). -/
def Obligations.RoundingIsHalfEven : Prop :=
  (∀ n d : Nat, 0 < d →
    2 * n ≤ (2 * roundHalfEven n d + 1) * d ∧ (2 * roundHalfEven n d - 1) * d ≤ 2 * n ∧
    (2 * n = (2 * roundHalfEven n d + 1) * d ∨ 2 * n + d = 2 * roundHalfEven n d * d →
      roundHalfEven n d % 2 = 0)) ∧
  (∀ (v : Exact) (e : ℤ), 0 < v.den → -1022 ≤ e → e < 1023 →
    2 ^ e ≤ |value v| → |value v| < 2 ^ (e + 1) →
    ∃ (w : Exact) (m : ℕ), binary64Value (fl v) = some w ∧ RoundsTo (|value v| / 2 ^ (e - 52)) m ∧
      value w = (if v.num < 0 then -1 else 1) * m * 2 ^ (e - 52))

/-- R173: the decimal exponent `e` of `render` satisfies `10^e ≤ num / den < 10^(e+1)`. -/
def Obligations.DecimalExponent : Prop :=
  ∀ num den : Nat, 0 < num → 0 < den →
    (∃ e : Nat, floorLog 10 num den = e ∧ 10 ^ e * den ≤ num ∧ num < 10 ^ (e + 1) * den) ∨
    (∃ e : Nat, floorLog 10 num den = - ((e : Int) + 1) ∧
      den ≤ 10 ^ (e + 1) * num ∧ 10 ^ e * num < den)

/-- R173: integers of at most six digits print in plain decimal, with a minus sign where negative. -/
def Obligations.RenderOfInteger : Prop :=
  ∀ n : Int, n.natAbs < 1000000 →
    render ⟨n, 1⟩ = (if n < 0 then ascii "-" else []) ++ dec n.natAbs

/-- R173: tenths of a 16-bit value print exactly, with one digit after the point where there is one. -/
def Obligations.RenderOfTenths : Prop :=
  ∀ n : Int, n.natAbs ≤ 65535 →
    render ⟨n, 10⟩ = (if n < 0 then ascii "-" else []) ++ dec (n.natAbs / 10) ++
      (if n.natAbs % 10 = 0 then [] else ascii "." ++ dec (n.natAbs % 10))

/-- R173, on every value: zero renders as `"0"`; any other value has a decimal exponent `e0` and a
six-digit significand `m0`, `m0 = 1000000` carries into the exponent, and the string is the sign and
the decimal spelling of exactly that significand: in fixed notation where the exponent is between -4
and 5, else with one digit before the point and the exponent after it; no zero ends the digits after
the point. The algorithm of `%g` is PRESUMED (log entry 9). -/
def Obligations.RenderOfEveryValue : Prop :=
  (∀ d : Nat, render ⟨0, d⟩ = ascii "0") ∧
  ∀ v : Exact, 0 < v.den → v.num ≠ 0 →
    ∃ (e0 : ℤ) (m0 : ℕ), 10 ^ e0 ≤ |value v| ∧ |value v| < 10 ^ (e0 + 1) ∧
      RoundsTo (|value v| / 10 ^ (e0 - 5)) m0 ∧
      ∃ (e : ℤ) (m : ℕ), (e, m) = (if m0 = 1000000 then (e0 + 1, 100000) else (e0, m0)) ∧
        ∃ (whole : ℕ) (frac : Str), (∀ c ∈ frac, IsDigit c) ∧ frac.getLast? ≠ some 0x30 ∧
          (-4 ≤ e ∧ e ≤ 5 → pointedValue whole frac = m * 10 ^ (e - 5) ∧
            render v = signOf v ++ pointed whole frac) ∧
          (e < -4 ∨ 5 < e → pointedValue whole frac = m / 10 ^ 5 ∧
            render v = signOf v ++ pointed whole frac ++ exponentText e)

/-! ### Reset, boot and the host -/

/-- R35, R330: what reset leaves, from every state, and what it does not touch. That the time last
presented and the mark of a done boot stay is DEDUCED (log entry 28). -/
def Obligations.ResetGivesResetValues : Prop :=
  ∀ (s : State) (rest : List Event), s.input = .reset :: rest →
    ∃ t, step s = .next t ∧
      t = { s with
            st := .idle, res := .none, fault := false, fcause := .none, reqReg := 0, tStart := 0
            len := 0, fb := t.fb, prev15 := false, disp := List.replicate s.cfg.length []
            input := rest } ∧
      ∀ a, fbRead t a = none

/-- R111, R331, R332, R37: a boot before the first command loads a well-formed configuration whole; a
configuration that is not well formed is refused, and so is a boot after the first command. -/
def Obligations.BootLoadsWellFormedConfig : Prop :=
  ∀ (s : State) (p : Config.Params) (rs : List ConfigRecord) (rest : List Event),
    s.input = .boot p rs :: rest → p.wf = true →
    (s.cfgFixed = true → step s = .refused .configChanged) ∧
    (s.cfgFixed = false → configWf rs = false → step s = .refused .illFormedConfig) ∧
    (s.cfgFixed = false → configWf rs = true → ∃ t, step s = .next t ∧ t.params = p ∧
      t.cfg.map RegDef.pack = rs ∧ t.disp = List.replicate rs.length [] ∧ t.cfgFixed = true ∧
      t = { s with
            params := t.params, cfg := t.cfg, disp := t.disp, cfgFixed := t.cfgFixed, input := rest })

/-- R21 to R23, R29: the fields of the words STATUS, LEN and TSTART, with the numbers of their values, in
states where `len` fits its field; and a host read of each word shows it and changes nothing else. The
port that shows it is the model's own (log entry 24). -/
def Obligations.StatusWordLayout : Prop :=
  (∀ s : State, s.len ≤ 257 →
    (statusWord s).toNat % 4 =
      (match s.st with | .idle => 0 | .sync => 1 | .hdr => 2 | .pay => 3) ∧
    (statusWord s).toNat / 4 % 8 =
      (match s.res with
        | .none => 0 | .ok => 1 | .badCksum => 2 | .errorFrame => 3 | .timedOut => 4 | .mismatch => 5) ∧
    (statusWord s).toNat / 32 % 2 = (if s.fault then 1 else 0) ∧
    (statusWord s).toNat / 64 % 4 =
      (match s.fcause with
        | .none => 0 | .busyRequest => 1 | .busyDecode => 2 | .reservedCmd => 3) ∧
    (statusWord s).toNat / 256 = s.reqReg.toNat ∧
    (lenWord s).toNat = s.len ∧ tstartWord s = s.tStart) ∧
  (∀ (s : State) (rest : List Event),
    (s.input = .read .status :: rest →
      step s = .next { s with hostOut := .word16 (statusWord s), input := rest }) ∧
    (s.input = .read .len :: rest →
      step s = .next { s with hostOut := .word16 (lenWord s), input := rest }) ∧
    (s.input = .read .tstart :: rest →
      step s = .next { s with hostOut := .word32 (tstartWord s), input := rest }))

/-- R36, R341: a host read of `FB[i]` gives the byte below `len` and changes nothing but what was read;
at `len` or above it faults. The port that shows the byte is the model's own (log entry 24). -/
def Obligations.HostReadOfFrameBuffer : Prop :=
  ∀ (s : State) (i : Nat) (rest : List Event), s.input = .read (.fb i) :: rest →
    (s.len ≤ i → step s = .fault (.fbNoValue i)) ∧
    (∀ b, fbRead s i = some b → step s = .next { s with hostOut := .byte b, input := rest })

/-- R72: bytes of the device go to the tail of the receive queue, and nothing else changes. -/
def Obligations.DeviceAppendsAtTail : Prop :=
  ∀ (s : State) (bytes : List Byte) (rest : List Event), s.input = .rx bytes :: rest →
    step s = .next { s with rxq := s.rxq ++ bytes, input := rest }

/-- R175, R288, R31: the classification of the codes, and the results interface: a host read of entry `i`
shows the label of `CFG[i]`, `DISP[i]` and the flag `TEXT[i]`, and changes nothing else; of an entry
that does not exist it faults. The port that shows them is the model's own (log entry 24). -/
def Obligations.NumericCodes : Prop :=
  (∀ code : BitVec 16, isText code = false ↔
    (101 ≤ code.toNat ∧ code.toNat ≤ 108) ∨ (151 ≤ code.toNat ∧ code.toNat ≤ 156) ∨
      code.toNat = 312 ∨ (401 ≤ code.toNat ∧ code.toNat ≤ 406)) ∧
  (∀ (s : State) (i : Nat) (rest : List Event), s.input = .read (.result i) :: rest →
    (∀ (d : RegDef) (v : Str), s.cfg[i]? = some d → s.disp[i]? = some v →
      step s = .next
        { s with hostOut := .entry d.label v (isText d.conversionCode), input := rest }) ∧
    (s.cfg.length ≤ i ∨ s.disp.length ≤ i → step s = .fault (.noSuchEntry i)))

/-! ### Invariants and runs -/

/-- R35: the invariant holds right after reset. -/
def Obligations.InvariantHoldsAtReset : Prop := Inv State.reset

/-- R22 to R28, R250 to R253: every step of the machine, whatever its event, keeps the invariant. -/
def Obligations.EveryStepKeepsInvariant : Prop :=
  ∀ s t : State, Inv s → step s = .next t → Inv t

/-- Every step keeps the canonical form of the frame buffer's memory, in every state: strictly rising
addresses, which is the model's own form of the memory (DESIGN CHOICE, log entry 19), within the
indices 0 to 256 (R26, R60). -/
def Obligations.EveryStepKeepsMemoryCanonical : Prop :=
  ∀ s t : State, Memory.wf s.fb → step s = .next t → Memory.wf t.fb

/-- R241, R302, R330: under the invariant, a command, bytes of the device, a reset and a conversion
always have a next state. That a conversion is a move of its own is the model's choice (DESIGN CHOICE,
log entry 4). -/
def Obligations.UnconditionalMovesComplete : Prop :=
  ∀ (s : State) (e : Event) (rest : List Event), Inv s → s.input = e :: rest →
    e.unconditional = true → ∃ t, step s = .next t

/-- R243 to R249: from `SYNC`, bytes without a marker followed by a frame for the requested registry,
all consumed before the deadline under `P_ERR_IN_SYNC = 0`, end the attempt with exactly that frame
held and the bytes after it still in the queue. -/
def Obligations.FrameAfterNoiseIsReceived : Prop :=
  ∀ (s : State) (noise tail rest : List Byte) (n : Byte) (times : List (BitVec 32)),
    Inv s → s.st = .sync → s.params.pErrInSync = false →
    (∀ b ∈ noise, b ≠ 0x40) → tail.length + 3 = max 3 (n.toNat + 2) →
    s.rxq = noise ++ (0x40 :: s.reqReg :: n :: tail) ++ rest →
    times.length = noise.length + tail.length + 3 →
    (∀ τ ∈ times, (τ - s.tStart).toNat < s.params.tTimeout.toNat) →
    ∃ t, stepsAt times s = .next t ∧ t.st = .idle ∧
      t.res = (if validate (0x40 :: s.reqReg :: n :: tail) then .ok else .badCksum) ∧
      frame t = some (0x40 :: s.reqReg :: n :: tail) ∧ t.rxq = rest ∧ t.reqReg = s.reqReg

/-- R245, R256: a stale reply for another registry is discarded within the attempt, and a valid frame
for the requested registry after it still ends the attempt with `OK`. -/
def Obligations.StaleReplyIsRecovered : Prop :=
  ∀ (s : State) (aa : Byte) (stale tail rest : List Byte) (n : Byte) (times : List (BitVec 32)),
    Inv s → s.st = .sync → s.params.pErrInSync = false → aa ≠ s.reqReg →
    (∀ b ∈ stale, b ≠ 0x40) → tail.length + 3 = max 3 (n.toNat + 2) →
    validate (0x40 :: s.reqReg :: n :: tail) = true →
    s.rxq = (0x40 :: aa :: stale) ++ (0x40 :: s.reqReg :: n :: tail) ++ rest →
    times.length = stale.length + tail.length + 5 →
    (∀ τ ∈ times, (τ - s.tStart).toNat < s.params.tTimeout.toNat) →
    ∃ t, stepsAt times s = .next t ∧ t.st = .idle ∧ t.res = .ok ∧
      frame t = some (0x40 :: s.reqReg :: n :: tail) ∧ t.rxq = rest
end

