-- ==== Sys2Proof/Laws/PerInstr.lean ====
section
/-! SUPPORT. A law per instruction about its encoding: the word of a well-formed instruction lies in
its row of spec/opcode_table.json (format, mask and match). -/

namespace Sys2Proof.Laws.EncodesInRow

open Sys2Proof

/-- A row of the opcode table: the format, and the bits of a word that the row fixes. -/
structure Row where
  format : Format
  mask : Nat
  value : Nat
deriving DecidableEq, Repr

/-- The row of each instruction, copied from spec/opcode_table.json. -/
def row : Instr → Row
  | .step => ⟨.cmd10, 0x3FF, 0x000⟩
  | .request _ => ⟨.cmd10, 0x300, 0x100⟩
  | .decode => ⟨.cmd10, 0x3FF, 0x200⟩
  | .reservedK3 _ => ⟨.cmd10, 0x300, 0x300⟩
  | .reservedStepData _ => ⟨.cmd10, 0x300, 0x000⟩
  | .reservedDecodeData _ => ⟨.cmd10, 0x300, 0x200⟩
  | .conv0 => ⟨.conv16, 0xFFFF, 0x0000⟩
  | .conv100 => ⟨.conv16, 0xFFFF, 0x0064⟩
  | .conv101 => ⟨.conv16, 0xFFFF, 0x0065⟩
  | .conv102 => ⟨.conv16, 0xFFFF, 0x0066⟩
  | .conv103 => ⟨.conv16, 0xFFFF, 0x0067⟩
  | .conv104 => ⟨.conv16, 0xFFFF, 0x0068⟩
  | .conv105 => ⟨.conv16, 0xFFFF, 0x0069⟩
  | .conv106 => ⟨.conv16, 0xFFFF, 0x006A⟩
  | .conv107 => ⟨.conv16, 0xFFFF, 0x006B⟩
  | .conv108 => ⟨.conv16, 0xFFFF, 0x006C⟩
  | .conv151 => ⟨.conv16, 0xFFFF, 0x0097⟩
  | .conv152 => ⟨.conv16, 0xFFFF, 0x0098⟩
  | .conv153 => ⟨.conv16, 0xFFFF, 0x0099⟩
  | .conv154 => ⟨.conv16, 0xFFFF, 0x009A⟩
  | .conv155 => ⟨.conv16, 0xFFFF, 0x009B⟩
  | .conv156 => ⟨.conv16, 0xFFFF, 0x009C⟩
  | .conv200 => ⟨.conv16, 0xFFFF, 0x00C8⟩
  | .conv203 => ⟨.conv16, 0xFFFF, 0x00CB⟩
  | .conv204 => ⟨.conv16, 0xFFFF, 0x00CC⟩
  | .conv201 => ⟨.conv16, 0xFFFF, 0x00C9⟩
  | .conv217 => ⟨.conv16, 0xFFFF, 0x00D9⟩
  | .conv211 => ⟨.conv16, 0xFFFF, 0x00D3⟩
  | .conv300 => ⟨.conv16, 0xFFFF, 0x012C⟩
  | .conv301 => ⟨.conv16, 0xFFFF, 0x012D⟩
  | .conv302 => ⟨.conv16, 0xFFFF, 0x012E⟩
  | .conv303 => ⟨.conv16, 0xFFFF, 0x012F⟩
  | .conv304 => ⟨.conv16, 0xFFFF, 0x0130⟩
  | .conv305 => ⟨.conv16, 0xFFFF, 0x0131⟩
  | .conv306 => ⟨.conv16, 0xFFFF, 0x0132⟩
  | .conv307 => ⟨.conv16, 0xFFFF, 0x0133⟩
  | .conv312 => ⟨.conv16, 0xFFFF, 0x0138⟩
  | .conv315 => ⟨.conv16, 0xFFFF, 0x013B⟩
  | .conv316 => ⟨.conv16, 0xFFFF, 0x013C⟩
  | .conv401 => ⟨.conv16, 0xFFFF, 0x0191⟩
  | .conv402 => ⟨.conv16, 0xFFFF, 0x0192⟩
  | .conv403 => ⟨.conv16, 0xFFFF, 0x0193⟩
  | .conv404 => ⟨.conv16, 0xFFFF, 0x0194⟩
  | .conv405 => ⟨.conv16, 0xFFFF, 0x0195⟩
  | .conv406 => ⟨.conv16, 0xFFFF, 0x0196⟩
  | .convOther _ => ⟨.conv16, 0x0000, 0x0000⟩

/-- A word as a number. -/
def number : InstrWord → Nat
  | .command w => w.toNat
  | .conversion code => code.toNat

/-- A well-formed instruction is encoded in its row. -/
def Statement (i : Instr) : Prop :=
  i.wf = true → (encode i).format = (row i).format ∧
    number (encode i) &&& (row i).mask = (row i).value

theorem step : Statement .step := by unfold Statement; decide
theorem request (reg : Byte) : Statement (.request reg) := by
  revert reg; unfold Statement; decide +kernel
theorem decode : Statement .decode := by unfold Statement; decide
theorem reservedK3 (data : Byte) : Statement (.reservedK3 data) := by
  revert data; unfold Statement; decide +kernel
theorem reservedStepData (data : Byte) : Statement (.reservedStepData data) := by
  revert data; unfold Statement; decide +kernel
theorem reservedDecodeData (data : Byte) : Statement (.reservedDecodeData data) := by
  revert data; unfold Statement; decide +kernel
theorem conv0 : Statement .conv0 := by unfold Statement; decide
theorem conv100 : Statement .conv100 := by unfold Statement; decide
theorem conv101 : Statement .conv101 := by unfold Statement; decide
theorem conv102 : Statement .conv102 := by unfold Statement; decide
theorem conv103 : Statement .conv103 := by unfold Statement; decide
theorem conv104 : Statement .conv104 := by unfold Statement; decide
theorem conv105 : Statement .conv105 := by unfold Statement; decide
theorem conv106 : Statement .conv106 := by unfold Statement; decide
theorem conv107 : Statement .conv107 := by unfold Statement; decide
theorem conv108 : Statement .conv108 := by unfold Statement; decide
theorem conv151 : Statement .conv151 := by unfold Statement; decide
theorem conv152 : Statement .conv152 := by unfold Statement; decide
theorem conv153 : Statement .conv153 := by unfold Statement; decide
theorem conv154 : Statement .conv154 := by unfold Statement; decide
theorem conv155 : Statement .conv155 := by unfold Statement; decide
theorem conv156 : Statement .conv156 := by unfold Statement; decide
theorem conv200 : Statement .conv200 := by unfold Statement; decide
theorem conv203 : Statement .conv203 := by unfold Statement; decide
theorem conv204 : Statement .conv204 := by unfold Statement; decide
theorem conv201 : Statement .conv201 := by unfold Statement; decide
theorem conv217 : Statement .conv217 := by unfold Statement; decide
theorem conv211 : Statement .conv211 := by unfold Statement; decide
theorem conv300 : Statement .conv300 := by unfold Statement; decide
theorem conv301 : Statement .conv301 := by unfold Statement; decide
theorem conv302 : Statement .conv302 := by unfold Statement; decide
theorem conv303 : Statement .conv303 := by unfold Statement; decide
theorem conv304 : Statement .conv304 := by unfold Statement; decide
theorem conv305 : Statement .conv305 := by unfold Statement; decide
theorem conv306 : Statement .conv306 := by unfold Statement; decide
theorem conv307 : Statement .conv307 := by unfold Statement; decide
theorem conv312 : Statement .conv312 := by unfold Statement; decide
theorem conv315 : Statement .conv315 := by unfold Statement; decide
theorem conv316 : Statement .conv316 := by unfold Statement; decide
theorem conv401 : Statement .conv401 := by unfold Statement; decide
theorem conv402 : Statement .conv402 := by unfold Statement; decide
theorem conv403 : Statement .conv403 := by unfold Statement; decide
theorem conv404 : Statement .conv404 := by unfold Statement; decide
theorem conv405 : Statement .conv405 := by unfold Statement; decide
theorem conv406 : Statement .conv406 := by unfold Statement; decide
theorem convOther (code : BitVec 16) : Statement (.convOther code) := fun _ => ⟨rfl, Nat.and_zero _⟩

end Sys2Proof.Laws.EncodesInRow
end

