-- ==== Sys2Proof/Tests/Slice0.lean ====
section
/-! SUPPORT. Tests on fixed values, each from a worked example or a table of spec/ named beside it, and
for each statement with hypotheses a witness that meets them. -/

namespace Sys2Proof.Tests

open Sys2Proof Sys2Proof.Machine Sys2Proof.Claims

/-- A view of the next state of an outcome; none where there is no next state. -/
def after {α : Type} (o : Host.Outcome State Fault Refusal) (view : State → α) : Option α :=
  match o with
  | .next t => some (view t)
  | _ => none

/-- The frame buffer that holds the bytes `f`. -/
def holding : Nat → List Byte → Memory
  | _, [] => []
  | i, b :: f => (i, b) :: holding (i + 1) f

/-- A started machine in a receive state with a frame held and bytes in the queue; the attempt for
`0x10` began at time 1000 and the time is 1005. -/
def receiving (st : RxState) (res : Res) (f rxq : List Byte) : State :=
  { State.reset with
    st := st, res := res, len := f.length, fb := holding 0 f, rxq := rxq, reqReg := 0x10
    tStart := 1000, now := 1005, cfgFixed := true }

/-- The example frame of R141. -/
def exampleFrame : List Byte := [0x40, 0x10, 0x06, 0x01, 0x2C, 0x85, 0x10, 0xE7]

/-- A definition for registry 0x10. -/
def definition (offset : Byte) (n : ByteCount) (code : BitVec 16) : RegDef :=
  { mode := 1, registryID := 0x10, offset := offset, byteCount := n, conversionCode := code
    label := ascii "L" }

/-- The example frame received, with definitions that read it: the first value, a slice that ends
on the checksum byte, the checksum byte itself, a slice one byte too far, another registry. -/
def decoding : State :=
  { receiving .idle .ok exampleFrame [] with
    cfg := [definition 0 .two 105, definition 3 .two 100, definition 4 .one 151,
            definition 4 .two 105, { definition 0 .two 105 with registryID := 0x20 }]
    disp := List.replicate 5 (ascii "old") }

/-- A slice presented to a conversion instruction, and the string it answers. -/
def converted (i : Instr) (s : Slice) : Option Str := after (exec i (setConvIn s State.reset)) State.convOut

/-! ### Well-formedness: each check refuses an ill-formed term -/

theorem test_wf_reservedStepData : Instr.wf (.reservedStepData 0) = false := by decide
theorem test_wf_reservedDecodeData : Instr.wf (.reservedDecodeData 0) = false := by decide
theorem test_wf_convOther : Instr.wf (.convOther 105) = false := by decide
theorem test_wf_record : ConfigRecord.wf ⟨0x0069_02_00_10_01#48, []⟩ = false := by decide
theorem test_wf_config : configWf [⟨0x0069_01_00_10_01#48, []⟩, ⟨0x0069_80_00_10_01#48, []⟩] = false := by
  decide
theorem test_wf_alphaHi :
    Config.Params.wf { Config.defaultParams with alphaHi := Config.defaultAlphaLo } = false := by decide
theorem test_wf_alphaLo :
    Config.Params.wf { Config.defaultParams with alphaLo := Config.defaultAlphaHi } = false := by decide
theorem test_wf_defaults : Config.defaultParams.wf = true := by decide
theorem test_wf_memory_order : ¬ Memory.wf [(1, 0x40), (0, 0x40)] := by decide
theorem test_wf_memory_index : ¬ Memory.wf [(257, 0x40)] := by decide

/-! ### Decoding: words written out from R112, R113 and the table of R108 -/

theorem test_decode_commands :
    [0b00_00000000#10, 0b01_00010000#10, 0b10_00000000#10, 0b11_00000000#10, 0b11_11111111#10,
     0b00_00000001#10, 0b10_10000000#10].map decodeCommand =
    [.step, .request 0x10, .decode, .reservedK3 0x00, .reservedK3 0xFF, .reservedStepData 0x01,
     .reservedDecodeData 0x80] := by decide
theorem test_decode_plain :
    [0b0000000000000000#16, 0b0000000001100100#16].map decodeConversion = [.conv0, .conv100] := by decide
theorem test_decode_signed :
    [0x0065#16, 0x0066#16, 0x0067#16, 0x0068#16, 0x0069#16, 0x006A#16, 0x006B#16, 0x006C#16].map
      decodeConversion =
    [.conv101, .conv102, .conv103, .conv104, .conv105, .conv106, .conv107, .conv108] := by decide
theorem test_decode_unsigned :
    [0x0097#16, 0x0098#16, 0x0099#16, 0x009A#16, 0x009B#16, 0x009C#16].map decodeConversion =
    [.conv151, .conv152, .conv153, .conv154, .conv155, .conv156] := by decide
theorem test_decode_symbolic :
    [0x00C8#16, 0x00CB#16, 0x00CC#16, 0x00C9#16, 0x00D9#16, 0x00D3#16].map decodeConversion =
    [.conv200, .conv203, .conv204, .conv201, .conv217, .conv211] := by decide
theorem test_decode_flags :
    [0x012C#16, 0x012D#16, 0x012E#16, 0x012F#16, 0x0130#16, 0x0131#16, 0x0132#16, 0x0133#16].map
      decodeConversion =
    [.conv300, .conv301, .conv302, .conv303, .conv304, .conv305, .conv306, .conv307] := by decide
theorem test_decode_nibbles :
    [0x0138#16, 0x013B#16, 0x013C#16].map decodeConversion = [.conv312, .conv315, .conv316] := by decide
theorem test_decode_curves :
    [0x0191#16, 0x0192#16, 0x0193#16, 0x0194#16, 0x0195#16, 0x0196#16].map decodeConversion =
    [.conv401, .conv402, .conv403, .conv404, .conv405, .conv406] := by decide
/-- R109: 308 and 309 are unassigned. -/
theorem test_decode_other :
    [0x0134#16, 0x0135#16, 0xFFFF#16].map decodeConversion =
    [.convOther 308, .convOther 309, .convOther 65535] := by decide
theorem test_decode_too_wide :
    (match decodeRaw .cmd10 0x400 with | .ok _ => none | .error e => some e) =
      some (.wordTooWide .cmd10 0x400) := by decide
/-- The first record of R110's layout: code 105, two bytes at offset 0 of registry 0x10, mode 1. -/
theorem test_decode_record :
    RegDef.unpack ⟨0b0000000001101001_0000000_1_00000000_00010000_00000001#48, ascii "L"⟩ =
      some (definition 0 .two 105) := by decide

/-! ### The host's probe -/

theorem test_probe_words :
    [decodeTableWord 16 0x000, decodeTableWord 16 0x110, decodeTableWord 16 0x200,
     decodeTableWord 16 0x301, decodeTableWord 16 0x0069, decodeTableWord 16 0xFFFF,
     decodeTableWord 16 0x10000] =
    [some .step, some (.request 0x10), some .decode, some (.reservedK3 1), some .conv105,
     some (.convOther 0xFFFF), none] := by decide
theorem test_probe_request :
    after (step (State.reset.withFetchWord 16 0x110)) (fun t => (t.txs, t.st)) =
      some ([0x03, 0x40, 0x10, 0xAC], .sync) := by decide
theorem test_probe_conversion :
    after (step (State.reset.withFetchWord 16 0x0069)) (fun t => (t.convOut, t.input)) =
      some (ascii "0", []) := by decide

/-! ### Commands -/

/-- R150's example. -/
theorem test_request :
    after (exec (.request 0x10) { State.reset with now := 1000 })
      (fun t => (t.txs, t.st, t.reqReg, t.tStart, t.len, t.res)) =
    some ([0x03, 0x40, 0x10, 0xAC], .sync, 0x10, 1000, 0, .none) := by decide
/-- R302: the first cause is kept. -/
theorem test_request_busy :
    after (exec (.request 0x20) { receiving .sync .none [] [] with fault := true, fcause := .busyDecode })
      (fun t => (t.fcause, t.txs, t.reqReg)) = some (.busyDecode, [], 0x10) := by decide
/-- R241's example. -/
theorem test_step_marker :
    after (exec .step (receiving .sync .none [] [0x40])) (fun t => (t.st, t.len, fbRead t 0, t.rxq)) =
      some (.hdr, 1, some 0x40, []) := by decide
/-- R304's example: the deadline wins over the byte that would complete the frame. -/
theorem test_step_deadline :
    after (exec .step { receiving .pay .none [0x40, 0x10, 0x02] [0xAD] with now := 1300 })
      (fun t => (t.st, t.res, t.len, t.rxq)) = some (.idle, .timedOut, 0, [0xAD]) := by decide
/-- R280's example, the corner cases of R284, and R282: another registry is not touched. -/
theorem test_decode :
    after (exec .decode decoding) State.disp =
      some [ascii "1126.5", [0x10, 0xE7], ascii "231", [], ascii "old"] := by decide
theorem test_decode_busy :
    after (exec .decode (receiving .pay .none [0x40, 0x10, 0x02] [])) (fun t => (t.fault, t.fcause)) =
      some (true, .busyDecode) := by decide
theorem test_reservedK3 :
    after (exec (.reservedK3 0) State.reset) (fun t => (t.fault, t.fcause)) =
      some (true, .reservedCmd) := by decide
theorem test_reservedStepData :
    after (exec (.reservedStepData 1) (receiving .sync .none [] [0x40])) (fun t => (t.fcause, t.rxq)) =
      some (.reservedCmd, [0x40]) := by decide
theorem test_reservedDecodeData :
    after (exec (.reservedDecodeData 1) decoding) (fun t => (t.fcause, t.disp)) =
      some (.reservedCmd, decoding.disp) := by decide

/-! ### Conversions: the examples and corner cases of R176 to R215 -/

theorem test_conv0 : converted .conv0 (.one 0x01) = some [] := by decide
theorem test_conv100 : converted .conv100 (.two 0x41 0x42) = some (ascii "AB") := by decide
theorem test_conv101 : converted .conv101 (.two 0x00 0x80) = some (ascii "-32768") := by decide
theorem test_conv102 : converted .conv102 (.two 0x01 0x2C) = some (ascii "300") := by decide
theorem test_conv103 : converted .conv103 (.two 0xFF 0x7F) = some (ascii "127.996") := by decide
theorem test_conv104 : converted .conv104 (.two 0x80 0x00) = some (ascii "-128") := by decide
theorem test_conv105 : converted .conv105 (.two 0x01 0x2C) = some (ascii "1126.5") := by decide
theorem test_conv106 : converted .conv106 (.two 0x01 0x2C) = some (ascii "30") := by decide
theorem test_conv107 : converted .conv107 (.two 0x00 0x80) = some (ascii "---") := by decide
theorem test_conv107_next : converted .conv107 (.two 0x01 0x80) = some (ascii "-3276.7") := by decide
theorem test_conv108 : converted .conv108 (.two 0x80 0x00) = some (ascii "---") := by decide
theorem test_conv108_one : converted .conv108 (.one 0x80) = some (ascii "-12.8") := by decide
theorem test_conv151 : converted .conv151 (.two 0xFF 0xFF) = some (ascii "65535") := by decide
theorem test_conv152 : converted .conv152 (.two 0x80 0x00) = some (ascii "32768") := by decide
theorem test_conv153 : converted .conv153 (.one 0x80) = some (ascii "0.5") := by decide
theorem test_conv154 : converted .conv154 (.two 0x01 0x00) = some (ascii "1") := by decide
theorem test_conv155 : converted .conv155 (.two 0x2A 0x00) = some (ascii "4.2") := by decide
theorem test_conv156 : converted .conv156 (.two 0x00 0x2A) = some (ascii "4.2") := by decide
theorem test_conv200 : converted .conv200 (.two 0x00 0x01) = some (ascii "OFF") := by decide
theorem test_conv203 : converted .conv203 (.one 0x03) = some (ascii "Caution") := by decide
theorem test_conv204 : converted .conv204 (.one 0x10) = some (ascii "A0") := by decide
theorem test_conv201 : converted .conv201 (.one 0x13) = some (ascii "-") := by decide
theorem test_conv217 : converted .conv217 (.one 0x07) = some (ascii "Dry") := by decide
theorem test_conv211 : converted .conv211 (.two 0x2A 0x00) = some (ascii "42") := by decide
theorem test_conv300 : converted .conv300 (.one 0xFE) = some (ascii "OFF") := by decide
theorem test_conv301 : converted .conv301 (.one 0x02) = some (ascii "ON") := by decide
theorem test_conv302 : converted .conv302 (.one 0xFB) = some (ascii "OFF") := by decide
theorem test_conv303 : converted .conv303 (.one 0x08) = some (ascii "ON") := by decide
theorem test_conv304 : converted .conv304 (.one 0xEF) = some (ascii "OFF") := by decide
theorem test_conv305 : converted .conv305 (.one 0x20) = some (ascii "ON") := by decide
theorem test_conv306 : converted .conv306 (.one 0xBF) = some (ascii "OFF") := by decide
theorem test_conv307 : converted .conv307 (.one 0x80) = some (ascii "ON") := by decide
theorem test_conv312 : converted .conv312 (.one 0x85) = some (ascii "-0.3125") := by decide
theorem test_conv312_zero : converted .conv312 (.one 0x80) = some (ascii "-0") := by decide
theorem test_conv315 : converted .conv315 (.one 0x5F) = some (ascii "Heating + DHW") := by decide
theorem test_conv315_gap : converted .conv315 (.one 0x30) = some (ascii "-") := by decide
theorem test_conv316 : converted .conv316 (.one 0x20) = some (ascii "Boiler only") := by decide
theorem test_convOther : converted (.convOther 308) (.one 0) = some (ascii "Conv 308 NA") := by decide
/-- R209's example: the input of the curve is -1, in binary64 0xBFF0000000000000. -/
theorem test_conv401_input : fl ⟨s16 (.two 0xFF 0xFF) .little, 1⟩ = 0xBFF0000000000000#64 := by
  decide +kernel
/-- R213's example: 11265 × fl(0.1) rounds to 1126.5, in binary64 0x40919A0000000000. -/
theorem test_conv405_input : flTimesTenth (s16 (.two 0x01 0x2C) .little) = 0x40919A0000000000#64 := by
  decide +kernel
/-- R214's example: 10 × fl(0.1) rounds to 1. -/
theorem test_conv406_input : flTimesTenth (s16 (.two 0x00 0x0A) .big) = 0x3FF0000000000000#64 := by
  decide +kernel
/-- R173: ties to even, and the exponential form. -/
theorem test_render_tie : render ⟨5, 256⟩ = ascii "0.0195312" := by decide +kernel
/-- R173: 999999.5 rounds up to 1000000, which carries into the exponent. -/
theorem test_render_carry : render ⟨9999995, 10⟩ = ascii "1e+06" := by decide +kernel
theorem test_render_exponent : render ⟨-1234567, 1⟩ = ascii "-1.23457e+06" := by decide +kernel

/-! ### The environment -/

/-- R330's example. -/
theorem test_reset_event :
    after (step { receiving .sync .none [] [0x15] with input := [.reset], txs := [0x03] })
      (fun t => (statusWord t, lenWord t, tstartWord t, t.txs, t.rxq)) =
    some (0, 0, 0, [0x03], [0x15]) := by decide
/-- R29: the layout of STATUS. -/
theorem test_status_word :
    statusWord { receiving .hdr .none [] [] with fault := true, fcause := .reservedCmd } =
      0b00010000_11_1_000_10#16 := by decide
theorem test_host_read_beyond :
    (match step { decoding with input := [.read (.fb 8)] } with | .fault r => some r | _ => none) =
      some (.fbNoValue 8) := by decide
theorem test_host_read_result :
    after (step { decoding with input := [.read (.result 0)] }) State.hostOut =
      some (.entry (ascii "L") (ascii "old") false) := by decide
theorem test_host_read_status :
    after (step { decoding with input := [.read .status] }) State.hostOut = some (.word16 0x1004) := by
  decide
theorem test_boot_refuses_records :
    (match step { State.reset with input := [.boot Config.defaultParams [⟨0x0069_02_00_10_01#48, []⟩]] } with
      | .refused r => some r | _ => none) = some .illFormedConfig := by decide
theorem test_boot_refuses_params :
    (match step { State.reset with
        input := [.boot { Config.defaultParams with alphaHi := Config.defaultAlphaLo } []] } with
      | .refused r => some r | _ => none) = some .illFormedParams := by decide
theorem test_memory_of_reset : Memory.wf State.reset.fb := by decide

/-! ### Witnesses: states that meet the hypotheses of the statements -/

/-- The invariant of a state with the frame `f` held, from facts that can be computed. -/
theorem inv_of_frame {s : State} (f : List Byte) (hf : frame s = some f)
    (memory : s.fb.map Prod.fst = List.range s.len) (capacity : s.len ≤ 257)
    (display : s.disp.length = s.cfg.length) (fault : s.fault = false ∧ s.fcause = .none)
    (started : s.cfgFixed = true) (params : s.params.wf = true)
    (sync : s.st = .sync → s.len = 0) (hdr : s.st = .hdr → s.len = 1 ∨ s.len = 2)
    (pay : s.st = .pay → 3 ≤ s.len ∧ ∃ n, fbRead s 2 = some n ∧ s.len < n.toNat + 2)
    (marker : s.st = .hdr ∨ s.st = .pay → fbRead s 0 = some 0x40)
    (registry : (s.st = .hdr ∧ s.len = 2) ∨ s.st = .pay → fbRead s 1 = some s.reqReg)
    (progress : s.st ≠ .idle → s.res = .none)
    (complete : s.st = .idle → s.res = .ok ∨ s.res = .badCksum → fbRead s 0 = some 0x40 ∧
      fbRead s 1 = some s.reqReg ∧ ∃ n, fbRead s 2 = some n ∧ s.len = max 3 (n.toNat + 2))
    (ok : s.res = .ok → validate f = true) (bad : s.res = .badCksum → validate f = false)
    (error : s.res = .errorFrame → s.params.pErrInSync = true ∧ f = [0x15, 0xEA])
    (late : s.res = .timedOut → s.len = 0) (none : s.st = .idle → s.res = .none → s.len = 0)
    (mismatch : s.res ≠ .mismatch) : Inv s where
  memory := memory
  capacity := capacity
  display := display
  cause := by simp [fault]
  syncEmpty := sync
  headerLen := hdr
  payloadLen := pay
  markerFirst := marker
  registrySecond := registry
  inProgress := progress
  complete := complete
  okValid h := ⟨f, hf, ok h⟩
  badInvalid h := ⟨f, hf, bad h⟩
  errorPair h := ⟨(error h).1, hf.trans (congrArg some (error h).2)⟩
  timedOutEmpty := late
  noAttemptEmpty := none
  noMismatch := mismatch
  notStarted h := by simp [started] at h
  alphabets := params

/-- Waiting for the marker, the queue given. -/
def waiting (rxq : List Byte) : State := receiving .sync .none [] rxq

theorem witness_inv_waiting (rxq : List Byte) : Inv (waiting rxq) := by
  refine inv_of_frame [] ?_ ?_ ?_ ?_ ?_ ?_ ?_ ?_ ?_ ?_ ?_ ?_ ?_ ?_ ?_ ?_ ?_ ?_ ?_ ?_ <;>
    first | decide | exact test_wf_defaults | simp [waiting, receiving, holding, frame, fbRange, State.reset]

theorem witness_inv_header : Inv (receiving .hdr .none [0x40, 0x10] [0x02]) := by
  refine inv_of_frame [0x40, 0x10] ?_ ?_ ?_ ?_ ?_ ?_ ?_ ?_ ?_ ?_ ?_ ?_ ?_ ?_ ?_ ?_ ?_ ?_ ?_ ?_ <;> decide

theorem witness_inv_payload : Inv (receiving .pay .none [0x40, 0x10, 0x02] [0xAD]) := by
  refine inv_of_frame [0x40, 0x10, 0x02] ?_ ?_ ?_ ?_ ?_ ?_ ?_ ?_ ?_ ?_ ?_ ?_ ?_ ?_ ?_ ?_ ?_ ?_ ?_ ?_ <;>
    decide

theorem witness_inv_ok : Inv decoding := by
  refine inv_of_frame exampleFrame ?_ ?_ ?_ ?_ ?_ ?_ ?_ ?_ ?_ ?_ ?_ ?_ ?_ ?_ ?_ ?_ ?_ ?_ ?_ ?_ <;> decide

theorem witness_inv_badCksum : Inv (receiving .idle .badCksum [0x40, 0x10, 0x01] []) := by
  refine inv_of_frame [0x40, 0x10, 0x01] ?_ ?_ ?_ ?_ ?_ ?_ ?_ ?_ ?_ ?_ ?_ ?_ ?_ ?_ ?_ ?_ ?_ ?_ ?_ ?_ <;>
    decide

theorem witness_inv_timedOut : Inv (receiving .idle .timedOut [] []) := by
  refine inv_of_frame [] ?_ ?_ ?_ ?_ ?_ ?_ ?_ ?_ ?_ ?_ ?_ ?_ ?_ ?_ ?_ ?_ ?_ ?_ ?_ ?_ <;> decide

/-- The error pair is looked for in `SYNC`. -/
def errorPairSought (s : State) : State :=
  { s with params := { Config.defaultParams with pErrInSync := true } }

theorem witness_inv_errorFrame :
    Inv (errorPairSought (receiving .idle .errorFrame [0x15, 0xEA] [])) := by
  refine inv_of_frame [0x15, 0xEA] ?_ ?_ ?_ ?_ ?_ ?_ ?_ ?_ ?_ ?_ ?_ ?_ ?_ ?_ ?_ ?_ ?_ ?_ ?_ ?_ <;> decide

theorem witness_DecodeOfEncodeIsIdentity :
    Instr.wf (.reservedStepData 1) = true ∧ Instr.wf (.reservedDecodeData 0xFF) = true ∧
      Instr.wf (.convOther 308) = true ∧ Instr.wf .conv406 = true := by decide

/-- A record with each reserved bit zero, and one with the lowest of them set. -/
theorem witness_ConfigRecordPacking :
    RegDef.unpack (definition 255 .two 0xFFFF).pack = some (definition 255 .two 0xFFFF) ∧
      RegDef.unpack ⟨0xFFFF_01_FF_10_01#48, ascii "L"⟩ = some (definition 255 .two 0xFFFF) ∧
      RegDef.unpack ⟨0xFFFF_03_FF_10_01#48, ascii "L"⟩ = none := by decide

theorem witness_StepRunsDecodedInstruction :
    (let s : State := { State.reset with input := [.command 0x110 1000] }
     decode (.command 0x110) = .request 0x10 ∧ Instr.wf (.request 0x10) = true ∧
       s.input = [.command 0x110 1000]) ∧
    (let s : State := { State.reset with input := [.convert 105 (.two 1 2)] }
     decode (.conversion 105) = .conv105 ∧ Instr.wf .conv105 = true ∧
       s.input = [.convert 105 (.two 1 2)]) := by decide

theorem witness_ReservedWordsOnlyRecordFault :
    (0b11_00000000#10).toNat / 256 = 3 ∧
      ((0b00_00000001#10).toNat / 256 = 0 ∧ (0b00_00000001#10).toNat % 256 ≠ 0) ∧
      ((0b10_11111111#10).toNat / 256 = 2 ∧ (0b10_11111111#10).toNat % 256 ≠ 0) := by decide

theorem witness_BusyCommandsAreRefused : (waiting []).st ≠ .idle := by decide

theorem witness_FirstFaultCauseIsKept :
    let s : State := { State.reset with fault := true, fcause := .busyDecode }
    s.fault = true ∧ exec (.reservedK3 0) s = .next s ∧ (∀ rest, s.input ≠ .reset :: rest) ∧
      step s = .next s := ⟨rfl, rfl, fun _ h => List.cons_ne_nil _ _ h.symm, rfl⟩

theorem witness_RequestStartsAttempt : State.reset.st = .idle ∧ (waiting []).st ≠ .idle := by decide

/-- The last time before the deadline. -/
theorem witness_StepWithNothingToDo :
    decoding.st = .idle ∧ BeforeDeadline { waiting [] with now := 1299 } ∧ (waiting []).rxq = [] :=
  ⟨rfl, by unfold BeforeDeadline; decide, rfl⟩

/-- The deadline itself, and a time behind the start of the attempt. -/
theorem witness_StepPastDeadlineTimesOut :
    (waiting []).st ≠ .idle ∧ ¬ BeforeDeadline { waiting [] with now := 1300 } ∧
      ¬ BeforeDeadline { waiting [] with now := 999 } :=
  ⟨by decide, by unfold BeforeDeadline; decide, by unfold BeforeDeadline; decide⟩

/-- The marker, an ordinary byte, and the second byte of the pair where the pair is not sought. -/
theorem witness_StepSynchronises :
    ((waiting [0x40]).st = .sync ∧ BeforeDeadline (waiting [0x40]) ∧ (waiting [0x40]).rxq = 0x40 :: []) ∧
    ((waiting [0x15]).st = .sync ∧ BeforeDeadline (waiting [0x15]) ∧ (waiting [0x15]).rxq = 0x15 :: [] ∧
      (0x15 : Byte) ≠ 0x40 ∧
      ¬ ((waiting [0x15]).params.pErrInSync = true ∧ (waiting [0x15]).prev15 = true ∧
        (0x15 : Byte) = 0xEA)) ∧
    (let s : State := { waiting [0xEA] with prev15 := true }
     ¬ (s.params.pErrInSync = true ∧ s.prev15 = true ∧ (0xEA : Byte) = 0xEA)) :=
  ⟨⟨rfl, by unfold BeforeDeadline; decide, rfl⟩,
    ⟨rfl, by unfold BeforeDeadline; decide, rfl, by decide, by decide⟩, by decide⟩

/-- The pair sought and found, sought without its first byte, and not sought. -/
theorem witness_StepErrorPairEndsAttempt :
    let s := errorPairSought { waiting [0xEA] with prev15 := true }
    let u := errorPairSought (waiting [0xEA])
    (s.st = .sync ∧ BeforeDeadline s ∧ s.rxq = 0xEA :: [] ∧ s.params.pErrInSync = true ∧
      s.prev15 = true) ∧
    (u.st = .sync ∧ BeforeDeadline u ∧ u.rxq = 0xEA :: [] ∧ u.prev15 = false) ∧
    (waiting [0xEA]).params.pErrInSync = false :=
  ⟨⟨rfl, by unfold BeforeDeadline; decide, rfl, rfl, rfl⟩,
    ⟨rfl, by unfold BeforeDeadline; decide, rfl, rfl⟩, rfl⟩

/-- A registry byte that matches and one that does not. -/
theorem witness_StepChecksRegistry :
    let s := receiving .hdr .none [0x40] [0x10]
    let u := receiving .hdr .none [0x40] [0x15]
    (s.st = .hdr ∧ s.len = 1 ∧ BeforeDeadline s ∧ s.rxq = 0x10 :: [] ∧ (0x10 : Byte) = s.reqReg) ∧
    (u.st = .hdr ∧ u.len = 1 ∧ BeforeDeadline u ∧ u.rxq = 0x15 :: [] ∧ (0x15 : Byte) ≠ u.reqReg) :=
  ⟨⟨rfl, rfl, by unfold BeforeDeadline; decide, rfl, rfl⟩,
    ⟨rfl, rfl, by unfold BeforeDeadline; decide, rfl, by decide⟩⟩

/-- The third byte, with a frame that goes on, and the last byte of a frame. -/
theorem witness_StepAppendsAndCompletes :
    let s := receiving .hdr .none [0x40, 0x10] [0x02]
    let u := receiving .pay .none [0x40, 0x10, 0x02] [0xAD]
    (Inv s ∧ s.st = .hdr ∧ s.len = 2 ∧ frame s = some [0x40, 0x10] ∧ BeforeDeadline s ∧
      s.rxq = 0x02 :: [] ∧ ¬ (0x02#8).toNat + 2 ≤ s.len + 1) ∧
    (Inv u ∧ u.st = .pay ∧ frame u = some [0x40, 0x10, 0x02] ∧ BeforeDeadline u ∧
      u.rxq = 0xAD :: [] ∧ (0x02#8).toNat + 2 ≤ u.len + 1 ∧ checksum [0x40, 0x10, 0x02] = 0xAD) :=
  ⟨⟨witness_inv_header, rfl, rfl, rfl, by unfold BeforeDeadline; decide, rfl, by decide⟩,
    ⟨witness_inv_payload, rfl, rfl, by unfold BeforeDeadline; decide, rfl, by decide, by decide⟩⟩

theorem witness_StepNeverFaults : Inv (waiting [0x40]) := witness_inv_waiting _

/-- A byte discarded, a byte appended under the invariant, and the error pair. -/
theorem witness_StepFrame :
    after (exec .step (waiting [0x00])) State.rxq = some [] ∧
    (let s := receiving .pay .none [0x40, 0x10, 0x02] [0xAD]
     Inv s ∧ after (exec .step s) (fun t => (t.len, fbRead t 3, fbRead t 0)) =
       some (4, some 0xAD, some 0x40)) ∧
    (let s := errorPairSought { waiting [0xEA] with prev15 := true }
     Inv s ∧ after (exec .step s) frame = some (some [0x15, 0xEA])) := by
  refine ⟨by decide, ⟨witness_inv_payload, by decide⟩, ?_, by decide⟩
  refine inv_of_frame [] ?_ ?_ ?_ ?_ ?_ ?_ ?_ ?_ ?_ ?_ ?_ ?_ ?_ ?_ ?_ ?_ ?_ ?_ ?_ ?_ <;> decide

theorem witness_NoErrorFrameByDefault :
    Inv (waiting [0xEA]) ∧ (waiting [0xEA]).params.pErrInSync = false ∧
      after (exec .step (waiting [0xEA])) State.res = some .none :=
  ⟨witness_inv_waiting _, rfl, by decide⟩

/-- An `OK` frame of five bytes is too short to be decoded. -/
theorem witness_DecodeGuardFailureChangesNothing :
    let f : List Byte := [0x40, 0x10, 0x03, 0x00, 0xAC]
    let s := receiving .idle .ok f []
    s.st = .idle ∧ frame s = some f ∧ validate f = true ∧ ¬ Decodable f :=
  ⟨rfl, rfl, by decide, by unfold Decodable; decide⟩

theorem decodable_exampleFrame : Decodable exampleFrame := by unfold Decodable; decide

/-- Every clause: another registry (entry 4), one byte too far (entry 3), the last byte of the frame
(entry 2), the last two bytes (entry 1). -/
theorem witness_DecodeWritesMatchingEntries :
    decoding.st = .idle ∧ frame decoding = some exampleFrame ∧ Decodable exampleFrame ∧
    (∃ d : RegDef, decoding.cfg[4]? = some d ∧ decoding.disp[4]? = some (ascii "old") ∧
      some d.registryID ≠ exampleFrame[1]?) ∧
    (∃ d : RegDef, decoding.cfg[3]? = some d ∧ some d.registryID = exampleFrame[1]? ∧
      decoding.len + 1 = 3 + d.offset.toNat + d.byteCount.toNat) ∧
    (∃ d : RegDef, decoding.cfg[2]? = some d ∧ some d.registryID = exampleFrame[1]? ∧ d.byteCount = .one ∧
      exampleFrame[3 + d.offset.toNat]? = some 0xE7) ∧
    (∃ d : RegDef, decoding.cfg[1]? = some d ∧ some d.registryID = exampleFrame[1]? ∧ d.byteCount = .two ∧
      exampleFrame[3 + d.offset.toNat]? = some 0x10 ∧
      exampleFrame[3 + d.offset.toNat + 1]? = some 0xE7) :=
  ⟨rfl, rfl, decodable_exampleFrame, ⟨_, rfl, rfl, by decide⟩, ⟨_, rfl, rfl, rfl⟩,
    ⟨_, rfl, rfl, rfl, rfl⟩, ⟨_, rfl, rfl, rfl, rfl, rfl⟩⟩

theorem witness_DecodeIsIdempotent : after (exec .decode decoding) State.len = some 8 := by decide

theorem witness_DecodeAfterFailedAttempt :
    Inv (receiving .idle .badCksum [0x40, 0x10, 0x01] []) ∧ Inv (receiving .idle .timedOut [] []) ∧
      Inv (errorPairSought (receiving .idle .errorFrame [0x15, 0xEA] [])) :=
  ⟨witness_inv_badCksum, witness_inv_timedOut, witness_inv_errorFrame⟩

theorem witness_DecodeIgnoresMode : after (exec .decode decoding) State.st = some .idle := by decide

theorem witness_MismatchIsNeverWritten :
    after (exec .step (waiting [])) State.res = some .none ∧ (waiting []).res ≠ .mismatch := by decide

theorem witness_OnlyRequestAndStepReceive :
    after (exec .conv0 (waiting [])) State.convOut = some [] ∧ Instr.conv0 ≠ .step ∧
      ∀ reg, Instr.conv0 ≠ .request reg :=
  ⟨by decide, by decide, fun _ h => by cases h⟩

theorem witness_OnlyDecodeWritesDisplay :
    after (exec .step decoding) State.disp = some decoding.disp ∧ Instr.step ≠ .decode := by decide

/-- The last name of the table, and the first byte past it. -/
theorem witness_TableCodes :
    let s := setConvIn (.one 0x12) State.reset
    let u := setConvIn (.one 0x13) State.reset
    s.params.alphaHi[firstByte s.convIn / 16]? = some 0x41 ∧
      s.params.alphaLo[firstByte s.convIn % 16]? = some 0x32 ∧
      s.params.modeNames[firstByte s.convIn]? = some (ascii "UseStrdThrm(ht)4") ∧
      19 ≤ firstByte u.convIn := by decide

theorem witness_SignMagnitudeCode :
    State.reset.params.f312Form = .sum ∧
      { State.reset with params := { Config.defaultParams with f312Form := .intFrac } }.params.f312Form =
        .intFrac ∧
      firstByte (setConvIn (.one 0x80) State.reset).convIn = 128 := by decide

theorem witness_CurveInputsAreExact : (-32768 : Int).natAbs < 2 ^ 53 ∧ (256 = 1 ∨ 256 = 256) := by norm_num

/-- A power of two lies at the low end of its binade. -/
theorem in_binade {e : ℤ} {x : ℚ} (h : x = 2 ^ e) : (2 : ℚ) ^ e ≤ |x| ∧ |x| < 2 ^ (e + 1) := by
  have hp : (0 : ℚ) < 2 ^ e := zpow_pos (by norm_num) e
  rw [h, abs_of_pos hp]
  exact ⟨le_rfl, zpow_lt_zpow_right₀ (by norm_num) (by omega)⟩

/-- Both ties of the integer rounding; and for `fl`, a tenth and the two ends of the range. -/
theorem witness_RoundingIsHalfEven :
    (0 < 2 ∧ 2 * 5 = (2 * roundHalfEven 5 2 + 1) * 2 ∧ 2 * 7 + 2 = 2 * roundHalfEven 7 2 * 2) ∧
    ((2 : ℚ) ^ (-4 : ℤ) ≤ |value ⟨-1, 10⟩| ∧ |value ⟨-1, 10⟩| < (2 : ℚ) ^ (-4 + 1 : ℤ)) ∧
    ((2 : ℚ) ^ (-1022 : ℤ) ≤ |value ⟨1, 2 ^ 1022⟩| ∧
      |value ⟨1, 2 ^ 1022⟩| < (2 : ℚ) ^ (-1022 + 1 : ℤ)) ∧
    ((2 : ℚ) ^ (1022 : ℤ) ≤ |value ⟨2 ^ 1022, 1⟩| ∧
      |value ⟨2 ^ 1022, 1⟩| < (2 : ℚ) ^ (1022 + 1 : ℤ)) := by
  have tenth : (2 : ℚ) ^ (-4 : ℤ) ≤ |value ⟨-1, 10⟩| ∧ |value ⟨-1, 10⟩| < (2 : ℚ) ^ (-4 + 1 : ℤ) := by
    norm_num [value, abs_div]
  have low : value ⟨1, 2 ^ 1022⟩ = 2 ^ (-1022 : ℤ) := by
    rw [value, zpow_neg, ← one_div, Nat.cast_pow, Int.cast_one]; rfl
  have high : value ⟨2 ^ 1022, 1⟩ = 2 ^ (1022 : ℤ) := by
    simp only [value, Nat.cast_one, Int.cast_pow, Int.cast_ofNat, div_one]; rfl
  exact ⟨by decide, tenth, in_binade low, in_binade high⟩

/-- A value in fixed notation, one with a negative exponent in fixed notation, one that carries, and
one in exponential notation. -/
theorem witness_RenderOfEveryValue :
    [(⟨5, 256⟩ : Exact), ⟨-1, 256⟩, ⟨9999995, 10⟩, ⟨1, 100000⟩].all
      (fun v => 0 < v.den && v.num != 0) = true := by decide

theorem witness_DecimalExponent : floorLog 10 1 10 = -1 ∧ floorLog 10 10 1 = 1 ∧ floorLog 10 1 1 = 0 := by
  decide

theorem witness_RenderOfInteger : (-999999 : Int).natAbs < 1000000 := by decide

theorem witness_RenderOfTenths : (65535 : Int).natAbs ≤ 65535 := by decide

theorem witness_ResetGivesResetValues :
    { waiting [] with input := [.reset] }.input = .reset :: [] := rfl

theorem witness_BootLoadsWellFormedConfig :
    let rs : List ConfigRecord := [(definition 0 .two 105).pack]
    let s : State := { State.reset with input := [.boot Config.defaultParams rs] }
    s.input = .boot Config.defaultParams rs :: [] ∧ Config.defaultParams.wf = true ∧
      s.cfgFixed = false ∧ configWf rs = true ∧ configWf [⟨0x0069_02_00_10_01#48, []⟩] = false ∧
      (waiting []).cfgFixed = true := by decide

theorem witness_StatusWordLayout :
    { State.reset with len := 257 }.len ≤ 257 ∧
      { decoding with input := [.read .status] }.input = .read .status :: [] ∧
      { decoding with input := [.read .len] }.input = .read .len :: [] ∧
      { decoding with input := [.read .tstart] }.input = .read .tstart :: [] := by decide

/-- The last entry, and the first index that has none. -/
theorem witness_NumericCodes :
    { decoding with input := [.read (.result 4)] }.input = .read (.result 4) :: [] ∧
      (decoding.cfg[4]?.map RegDef.label) = some (ascii "L") ∧ decoding.disp[4]? = some (ascii "old") ∧
      decoding.cfg.length ≤ 5 := by decide

/-- The last byte held, and the first that is not. -/
theorem witness_HostReadOfFrameBuffer :
    { decoding with input := [.read (.fb 7)] }.input = .read (.fb 7) :: [] ∧
      fbRead decoding 7 = some 0xE7 ∧ decoding.len ≤ 8 := by decide

theorem witness_DeviceAppendsAtTail :
    { waiting [1] with input := [.rx [2]] }.input = .rx [2] :: [] := rfl

theorem witness_EveryStepKeepsInvariant :
    Inv decoding ∧ after (step decoding) State.len = some 8 := ⟨witness_inv_ok, by decide⟩

theorem witness_EveryStepKeepsMemoryCanonical :
    Memory.wf decoding.fb ∧ after (step decoding) State.len = some 8 := by decide

theorem witness_UnconditionalMovesComplete :
    let s := { waiting [] with input := [.command 0x000 1005] }
    Inv s ∧ s.input = .command 0x000 1005 :: [] ∧ Event.unconditional (.command 0x000 1005) = true := by
  refine ⟨?_, by decide, by decide⟩
  refine inv_of_frame [] ?_ ?_ ?_ ?_ ?_ ?_ ?_ ?_ ?_ ?_ ?_ ?_ ?_ ?_ ?_ ?_ ?_ ?_ ?_ ?_ <;> decide

/-- Every time of the two runs below is the last one before the deadline. -/
theorem before (n : Nat) : ∀ τ ∈ List.replicate n (1299#32),
    (τ - (1000#32)).toNat < Config.defaultParams.tTimeout.toNat := fun τ h => by
  rw [List.eq_of_mem_replicate h]; decide

/-- A frame that validates, and one of three bytes that does not. -/
theorem witness_FrameAfterNoiseIsReceived :
    let s := waiting [0xFF, 0x40, 0x10, 0x02, 0xAD, 0x07]
    let u := waiting [0x40, 0x10, 0x00]
    (Inv s ∧ s.st = .sync ∧ s.params.pErrInSync = false ∧ (∀ b ∈ [(0xFF : Byte)], b ≠ 0x40) ∧
      [(0xAD : Byte)].length + 3 = max 3 ((0x02#8).toNat + 2) ∧
      s.rxq = [0xFF] ++ (0x40 :: s.reqReg :: 0x02 :: [0xAD]) ++ [0x07] ∧
      (List.replicate 5 (1299#32)).length = [(0xFF : Byte)].length + [(0xAD : Byte)].length + 3 ∧
      ∀ τ ∈ List.replicate 5 (1299#32), (τ - s.tStart).toNat < s.params.tTimeout.toNat) ∧
    (Inv u ∧ ([] : List Byte).length + 3 = max 3 ((0x00#8).toNat + 2) ∧
      u.rxq = [] ++ (0x40 :: u.reqReg :: 0x00 :: []) ++ []) :=
  ⟨⟨witness_inv_waiting _, rfl, rfl, by decide, by decide, rfl, rfl, before 5⟩,
    ⟨witness_inv_waiting _, by decide, rfl⟩⟩

theorem witness_StaleReplyIsRecovered :
    let s := waiting [0x40, 0x20, 0x05, 0x40, 0x10, 0x02, 0xAD]
    Inv s ∧ s.st = .sync ∧ s.params.pErrInSync = false ∧ (0x20 : Byte) ≠ s.reqReg ∧
      (∀ b ∈ [(0x05 : Byte)], b ≠ 0x40) ∧ [(0xAD : Byte)].length + 3 = max 3 ((0x02#8).toNat + 2) ∧
      validate (0x40 :: s.reqReg :: 0x02 :: [0xAD]) = true ∧
      s.rxq = (0x40 :: 0x20 :: [0x05]) ++ (0x40 :: s.reqReg :: 0x02 :: [0xAD]) ++ [] ∧
      (List.replicate 7 (1299#32)).length = [(0x05 : Byte)].length + [(0xAD : Byte)].length + 5 ∧
      ∀ τ ∈ List.replicate 7 (1299#32), (τ - s.tStart).toNat < s.params.tTimeout.toNat :=
  ⟨witness_inv_waiting _, rfl, rfl, by decide, by decide, by decide, by decide, rfl, rfl, before 7⟩

end Sys2Proof.Tests
end

section
/-! # The decimal spelling of a number (spec/00_scope.md R9)

`dec` runs `decDigits` on fuel. `dec_of_lt` and `dec_of_ge` give its two equations without the fuel,
`dec_induction` is the induction they allow, and the facts about the spelling follow from it. -/

namespace Sys2Proof.Proofs

open Sys2Proof Sys2Proof.Machine Sys2Proof.Claims

/-! ### One digit -/

theorem digit_toNat {d : Nat} (hd : d < 10) : (digit d).toNat = 48 + d := by
  rw [digit, BitVec.toNat_ofNat]
  omega

theorem isDigit_digit {d : Nat} (hd : d < 10) : IsDigit (digit d) := by
  rw [IsDigit, digit_toNat hd]
  omega

theorem digit_eq_zero_iff {d : Nat} (hd : d < 10) : digit d = 0x30 ↔ d = 0 := by
  rw [← BitVec.toNat_inj, digit_toNat hd, show (0x30 : Byte).toNat = 48 from rfl]
  omega

/-! ### Reading digits back -/

@[simp] theorem decimalValue_append_singleton (t : Str) (c : Byte) :
    decimalValue (t ++ [c]) = 10 * decimalValue t + (c.toNat - 48) := by
  simp only [decimalValue, List.foldl_append, List.foldl_cons, List.foldl_nil]

theorem decimalValue_append_digit (t : Str) {d : Nat} (hd : d < 10) :
    decimalValue (t ++ [digit d]) = 10 * decimalValue t + d := by
  rw [decimalValue_append_singleton, digit_toNat hd, Nat.add_sub_cancel_left]

theorem decimalValue_digit {d : Nat} (hd : d < 10) : decimalValue [digit d] = d := by
  simpa [decimalValue] using decimalValue_append_digit [] hd

/-! ### The equations of `dec` -/

theorem decDigits_succ_of_lt (fuel : Nat) {n : Nat} (hn : n < 10) :
    decDigits (fuel + 1) n = [digit n] := if_pos hn

theorem decDigits_succ_of_ge (fuel : Nat) {n : Nat} (hn : 10 ≤ n) :
    decDigits (fuel + 1) n = decDigits fuel (n / 10) ++ [digit (n % 10)] := if_neg hn.not_gt

/-- Fuel above `n` is enough: any two such amounts spell the same digits. -/
theorem decDigits_eq_of_lt {fuel fuel' n : Nat} (h : n < fuel) (h' : n < fuel') :
    decDigits fuel n = decDigits fuel' n := by
  induction fuel generalizing fuel' n with
  | zero => omega
  | succ f ih =>
    obtain ⟨f', rfl⟩ : ∃ f', fuel' = f' + 1 := Nat.exists_eq_add_one.mpr (by omega)
    rcases Nat.lt_or_ge n 10 with hn | hn
    · rw [decDigits_succ_of_lt f hn, decDigits_succ_of_lt f' hn]
    · rw [decDigits_succ_of_ge f hn, decDigits_succ_of_ge f' hn,
        ih (by omega : n / 10 < f) (by omega : n / 10 < f')]

theorem dec_of_lt {n : Nat} (hn : n < 10) : dec n = [digit n] := decDigits_succ_of_lt n hn

theorem dec_of_ge {n : Nat} (hn : 10 ≤ n) : dec n = dec (n / 10) ++ [digit (n % 10)] := by
  rw [dec, decDigits_succ_of_ge n hn, decDigits_eq_of_lt (by omega : n / 10 < n) (n / 10).lt_succ_self,
    dec]

/-- Induction on a spelling: a single digit, or a shorter spelling with one more digit at its end. -/
theorem dec_induction {P : Nat → Str → Prop} (single : ∀ d < 10, P d [digit d])
    (append : ∀ n, 10 ≤ n → P (n / 10) (dec (n / 10)) → P n (dec (n / 10) ++ [digit (n % 10)]))
    (n : Nat) : P n (dec n) := by
  induction n using Nat.strong_induction_on with
  | _ n ih =>
    rcases Nat.lt_or_ge n 10 with hn | hn
    · rw [dec_of_lt hn]
      exact single n hn
    · rw [dec_of_ge hn]
      exact append n hn (ih (n / 10) (by omega))

/-! ### What a spelling is -/

theorem isDigit_of_mem_dec (n : Nat) : ∀ c ∈ dec n, IsDigit c := by
  induction n using dec_induction with
  | single d hd => exact List.forall_mem_singleton.mpr (isDigit_digit hd)
  | append n _ ih =>
    exact List.forall_mem_append.mpr
      ⟨ih, List.forall_mem_singleton.mpr (isDigit_digit (n.mod_lt (by decide)))⟩

@[simp] theorem decimalValue_dec (n : Nat) : decimalValue (dec n) = n := by
  induction n using dec_induction with
  | single d hd => exact decimalValue_digit hd
  | append n _ ih =>
    rw [decimalValue_append_digit _ (n.mod_lt (by decide)), ih, Nat.div_add_mod]

/-- The first digit of a spelling, which is 0 only in the spelling of 0. -/
theorem dec_eq_cons (n : Nat) : ∃ d rest, dec n = digit d :: rest ∧ d < 10 ∧ (d = 0 → n = 0) := by
  induction n using dec_induction with
  | single d hd => exact ⟨d, [], rfl, hd, id⟩
  | append n hn ih =>
    obtain ⟨d, rest, hdec, hd, hzero⟩ := ih
    exact ⟨d, rest ++ [digit (n % 10)], by rw [hdec, List.cons_append], hd, by omega⟩

theorem dec_ne_nil (n : Nat) : dec n ≠ [] := by
  obtain ⟨d, rest, hdec, -, -⟩ := dec_eq_cons n
  simp [hdec]

theorem eq_zero_of_head?_dec {n : Nat} (h : (dec n).head? = some 0x30) : n = 0 := by
  obtain ⟨d, rest, hdec, hd, hzero⟩ := dec_eq_cons n
  rw [hdec, List.head?_cons, Option.some_inj, digit_eq_zero_iff hd] at h
  exact hzero h

/-- Settles O43, from the induction on the spelling. -/
theorem decimalSpelling : Obligations.DecimalSpelling := fun n =>
  ⟨isDigit_of_mem_dec n, decimalValue_dec n, mt List.head?_eq_none_iff.mp (dec_ne_nil n),
    eq_zero_of_head?_dec⟩

end Sys2Proof.Proofs
end

section
/-! # What an instruction can do

`exec_next` says once, for every row of the opcode table, what a next state can be: the 40 conversion
rows and the three reserved rows have one shape each. The other lemmas do the same for REQUEST and for
the parts of STEP that Laws/Ops.lean leaves as they are defined. -/

namespace Sys2Proof.Proofs

open Sys2Proof Sys2Proof.Machine

/-- REQUEST answers a refusal, or the start of an attempt after the request is sent (R150). -/
theorem execRequest_next {reg : Byte} {s t : State} (h : execRequest reg s = .next t) :
    (s.st ≠ .idle ∧ t = raiseFault .busyRequest s) ∨
    (s.st = .idle ∧ t = startAttempt reg (txFlush (txPutAll (makeRequest reg) s))) := by
  unfold execRequest at h
  split at h
  · cases h; exact .inl ⟨‹_›, rfl⟩
  · cases h; exact .inr ⟨not_not.mp ‹_›, rfl⟩

/-- Every way an instruction can answer a next state. -/
theorem exec_next {i : Instr} {s t : State} (h : exec i s = .next t) :
    (i = .step ∧ execStep s = .next t) ∨
    (∃ reg, i = .request reg ∧ execRequest reg s = .next t) ∨
    (i = .decode ∧ execDecode s = .next t) ∨
    t = raiseFault .reservedCmd s ∨
    ∃ out, t = setConvOut out s := by
  cases i with
  | step => exact .inl ⟨rfl, h⟩
  | request reg => exact .inr (.inl ⟨reg, rfl, h⟩)
  | decode => exact .inr (.inr (.inl ⟨rfl, h⟩))
  | reservedK3 _ | reservedStepData _ | reservedDecodeData _ =>
    cases h; exact .inr (.inr (.inr (.inl rfl)))
  | _ => exact .inr (.inr (.inr (.inr ⟨_, convResult_next h⟩)))

/-- `post_append` ends the attempt or leaves the state as it is (R248, R249). -/
theorem postAppend_finish_or_same {s t : State} (h : postAppend s = .next t) :
    (∃ r, t = finish r s) ∨ t = s := by
  obtain ⟨_, _, ⟨_, ht⟩ | ⟨_, _, _, ht⟩ | ⟨_, _, _, ht⟩ | ⟨_, _, ht⟩⟩ := postAppend_next h
  · exact .inl ⟨_, ht⟩
  · exact .inl ⟨_, ht⟩
  · exact .inl ⟨_, ht⟩
  · exact .inr ht

end Sys2Proof.Proofs
end

section
/-! # Which instructions write which part of the state (spec/20_memory.md R60)

`ReceiveKept` and `ResultsKept` name the two parts of the state; each part has a lemma per update that
leaves it as it was, and the statements follow from `exec_next`. -/

namespace Sys2Proof.Proofs

open Sys2Proof Sys2Proof.Machine

/-! ### The receive state, the frame buffer and the streams -/

/-- The part of the state that only REQUEST and STEP write is the same in `s` and `t`. -/
structure ReceiveKept (s t : State) : Prop where
  st : t.st = s.st
  res : t.res = s.res
  reqReg : t.reqReg = s.reqReg
  tStart : t.tStart = s.tStart
  prev15 : t.prev15 = s.prev15
  rxq : t.rxq = s.rxq
  txs : t.txs = s.txs
  len : t.len = s.len
  fb : t.fb = s.fb

theorem ReceiveKept.rfl {s : State} : ReceiveKept s s := by constructor <;> rfl

/-- A refusal touches `fault` and `fcause` only (R302). -/
theorem receiveKept_raiseFault (c : FCause) (s : State) : ReceiveKept s (raiseFault c s) := by
  constructor <;> simp

theorem receiveKept_setDisp (x : List Str) (s : State) : ReceiveKept s (setDisp x s) := by
  constructor <;> simp

theorem receiveKept_setConvOut (x : Str) (s : State) : ReceiveKept s (setConvOut x s) := by
  constructor <;> simp

theorem execDecode_receiveKept {s t : State} (h : execDecode s = .next t) : ReceiveKept s t := by
  obtain ⟨_, rfl⟩ | ⟨_, _, _, ⟨_, rfl⟩ | ⟨_, rfl⟩⟩ := execDecode_next h
  · exact receiveKept_raiseFault _ s
  · exact receiveKept_setDisp _ s
  · exact .rfl

theorem exec_receiveKept {i : Instr} {s t : State} (h : exec i s = .next t) (hstep : i ≠ .step)
    (hrequest : ∀ reg, i ≠ .request reg) : ReceiveKept s t := by
  obtain ⟨hi, _⟩ | ⟨reg, hi, _⟩ | ⟨_, hd⟩ | rfl | ⟨out, rfl⟩ := exec_next h
  · exact absurd hi hstep
  · exact absurd hi (hrequest reg)
  · exact execDecode_receiveKept hd
  · exact receiveKept_raiseFault _ s
  · exact receiveKept_setConvOut out s

/-- Settles O29: what is left of `exec_next` is DECODE, a refusal and a conversion. -/
theorem onlyRequestAndStepReceive : Obligations.OnlyRequestAndStepReceive := by
  intro i s t h hstep hrequest
  obtain ⟨st, res, reqReg, tStart, prev15, rxq, txs, len, fb⟩ := exec_receiveKept h hstep hrequest
  exact ⟨st, res, reqReg, tStart, prev15, rxq, txs, len, fbRead_congr len fb⟩

/-! ### The display values, the configuration and the parameters -/

@[simp] theorem syncByte_disp (b : Byte) (s : State) : (syncByte b s).disp = s.disp := by
  unfold syncByte; split_ifs <;> rfl

@[simp] theorem syncByte_cfg (b : Byte) (s : State) : (syncByte b s).cfg = s.cfg := by
  unfold syncByte; split_ifs <;> rfl

@[simp] theorem syncByte_params (b : Byte) (s : State) : (syncByte b s).params = s.params := by
  unfold syncByte; split_ifs <;> rfl

@[simp] theorem registryCheck_disp (r : Byte) (s : State) : (registryCheck r s).disp = s.disp := by
  unfold registryCheck; split_ifs <;> rfl

@[simp] theorem registryCheck_cfg (r : Byte) (s : State) : (registryCheck r s).cfg = s.cfg := by
  unfold registryCheck; split_ifs <;> rfl

@[simp] theorem registryCheck_params (r : Byte) (s : State) :
    (registryCheck r s).params = s.params := by
  unfold registryCheck; split_ifs <;> rfl

/-- `DISP` and what it is computed with are the same in `s` and `t`. -/
structure ResultsKept (s t : State) : Prop where
  disp : t.disp = s.disp
  cfg : t.cfg = s.cfg
  params : t.params = s.params

theorem ResultsKept.rfl {s : State} : ResultsKept s s := by constructor <;> rfl

theorem postAppend_resultsKept {s t : State} (h : postAppend s = .next t) : ResultsKept s t := by
  obtain ⟨r, rfl⟩ | rfl := postAppend_finish_or_same h
  · constructor <;> simp
  · exact .rfl

theorem consumeByte_resultsKept {s t : State} {b : Byte} (h : consumeByte b s = .next t) :
    ResultsKept s t := by
  obtain ⟨_, rfl⟩ | ⟨_, rfl⟩ | ⟨_, _, _, rfl⟩ | ⟨_, _, _, ha⟩ | ⟨_, _, ha⟩ := consumeByte_next h
  · exact .rfl
  · constructor <;> simp
  · constructor <;> simp
  · obtain ⟨disp, cfg, params⟩ := postAppend_resultsKept ha
    exact ⟨disp, cfg, params⟩
  · obtain ⟨disp, cfg, params⟩ := postAppend_resultsKept ha
    exact ⟨disp, cfg, params⟩

theorem execStep_resultsKept {s t : State} (h : execStep s = .next t) : ResultsKept s t := by
  obtain ⟨_, rfl⟩ | ⟨_, _, rfl⟩ | ⟨_, _, _, rfl⟩ | ⟨_, _, b, rest, _, hb⟩ := execStep_next h
  · exact .rfl
  · constructor <;> simp
  · exact .rfl
  · obtain ⟨disp, cfg, params⟩ := consumeByte_resultsKept hb
    exact ⟨disp, cfg, params⟩

theorem execRequest_resultsKept {reg : Byte} {s t : State} (h : execRequest reg s = .next t) :
    ResultsKept s t := by
  obtain ⟨_, rfl⟩ | ⟨_, rfl⟩ := execRequest_next h
  · constructor <;> simp
  · constructor <;> simp

/-- DECODE writes `DISP`, and neither the configuration nor the parameters. -/
theorem execDecode_cfg_params {s t : State} (h : execDecode s = .next t) :
    t.cfg = s.cfg ∧ t.params = s.params := by
  obtain ⟨_, rfl⟩ | ⟨_, _, _, ⟨_, rfl⟩ | ⟨_, rfl⟩⟩ := execDecode_next h
  · simp
  · simp
  · exact ⟨rfl, rfl⟩

/-- An instruction other than DECODE keeps all of it. -/
theorem exec_decode_or_resultsKept {i : Instr} {s t : State} (h : exec i s = .next t) :
    (i = .decode ∧ execDecode s = .next t) ∨ ResultsKept s t := by
  obtain ⟨_, hs⟩ | ⟨_, _, hr⟩ | hd | rfl | ⟨_, rfl⟩ := exec_next h
  · exact .inr (execStep_resultsKept hs)
  · exact .inr (execRequest_resultsKept hr)
  · exact .inl hd
  · exact .inr (by constructor <;> simp)
  · exact .inr (by constructor <;> simp)

/-- Settles O30: DECODE is the one instruction that does not keep all three fields. -/
theorem onlyDecodeWritesDisplay : Obligations.OnlyDecodeWritesDisplay := by
  intro i s t h
  obtain ⟨hi, hd⟩ | ⟨disp, cfg, params⟩ := exec_decode_or_resultsKept h
  · exact ⟨fun hne => absurd hi hne, execDecode_cfg_params hd⟩
  · exact ⟨fun _ => disp, cfg, params⟩

end Sys2Proof.Proofs
end

section
/-! # The canonical form of the frame buffer's memory (spec/20_memory.md R60)

Every write of the memory is a store inside `FB` or a discard, which keep the form by the laws of
Laws/Memory.lean; a lemma for each operation that writes, then for each level of the machine. -/

namespace Sys2Proof.Proofs

open Sys2Proof Sys2Proof.Machine

theorem syncByte_wf {s : State} (b : Byte) (h : Memory.wf s.fb) : Memory.wf (syncByte b s).fb := by
  unfold syncByte
  split_ifs
  · exact Memory.truncate_wf 1 (Memory.write_wf 0 _ h (by decide))
  · exact Memory.truncate_wf 2
      (Memory.write_wf 1 _ (Memory.write_wf 0 _ h (by decide)) (by decide))
  · exact h

theorem registryCheck_wf {s : State} (r : Byte) (h : Memory.wf s.fb) :
    Memory.wf (registryCheck r s).fb := by
  unfold registryCheck
  split_ifs
  · exact Memory.truncate_wf 0 h
  · exact h

theorem appendByte_wf {s : State} (b : Byte) (h : Memory.wf s.fb) (hlen : s.len < Config.bufCap) :
    Memory.wf (appendByte b s).fb := Memory.write_wf s.len b h hlen

theorem postAppend_fb {s t : State} (h : postAppend s = .next t) : t.fb = s.fb := by
  obtain ⟨r, rfl⟩ | rfl := postAppend_finish_or_same h
  · exact finish_fb r s
  · rfl

theorem consumeByte_wf {s t : State} {b : Byte} (hwf : Memory.wf s.fb)
    (h : consumeByte b s = .next t) : Memory.wf t.fb := by
  obtain ⟨_, rfl⟩ | ⟨_, rfl⟩ | ⟨_, hlen, _, rfl⟩ | ⟨_, hlen, _, ha⟩ | ⟨_, hlen, ha⟩ :=
    consumeByte_next h
  · exact hwf
  · exact syncByte_wf b hwf
  · exact registryCheck_wf b (appendByte_wf b hwf hlen)
  · rw [postAppend_fb ha]
    exact appendByte_wf b hwf hlen
  · rw [postAppend_fb ha]
    exact appendByte_wf b hwf hlen

theorem execStep_wf {s t : State} (hwf : Memory.wf s.fb) (h : execStep s = .next t) :
    Memory.wf t.fb := by
  obtain ⟨_, rfl⟩ | ⟨_, _, rfl⟩ | ⟨_, _, _, rfl⟩ | ⟨_, _, b, rest, _, hb⟩ := execStep_next h
  · exact hwf
  · exact Memory.truncate_wf 0 hwf
  · exact hwf
  · exact consumeByte_wf (s := setRxq rest s) hwf hb

theorem execRequest_wf {reg : Byte} {s t : State} (hwf : Memory.wf s.fb)
    (h : execRequest reg s = .next t) : Memory.wf t.fb := by
  obtain ⟨_, rfl⟩ | ⟨_, rfl⟩ := execRequest_next h
  · rw [raiseFault_fb]
    exact hwf
  · rw [startAttempt_fb, Memory.truncate_zero]
    exact Memory.wf_nil

theorem exec_wf {i : Instr} {s t : State} (hwf : Memory.wf s.fb) (h : exec i s = .next t) :
    Memory.wf t.fb := by
  obtain ⟨_, hs⟩ | ⟨_, _, hr⟩ | ⟨_, hd⟩ | rfl | ⟨_, rfl⟩ := exec_next h
  · exact execStep_wf hwf hs
  · exact execRequest_wf hwf hr
  · rw [(execDecode_receiveKept hd).fb]
    exact hwf
  · rw [raiseFault_fb]
    exact hwf
  · exact hwf

theorem runEvent_wf {e : Event} {s t : State} (hwf : Memory.wf s.fb) (h : runEvent e s = .next t) :
    Memory.wf t.fb := by
  cases e with
  | command w τ => exact exec_wf (s := present τ s) hwf h
  | rx bytes => cases h; exact hwf
  | reset => cases h; exact Memory.wf_nil
  | boot p rs =>
    obtain ⟨_, _, _, _, rfl⟩ := boot_next h
    exact hwf
  | read port =>
    rw [hostRead_next h]
    exact hwf
  | convert code sl => exact exec_wf (s := setConvIn sl s) hwf h

/-- Settles O56: a step runs an event on the same memory, or changes nothing. -/
theorem everyStepKeepsMemoryCanonical : Obligations.EveryStepKeepsMemoryCanonical := by
  intro s t hwf h
  cases hin : s.input with
  | nil =>
    rw [step_of_no_input hin] at h
    cases h
    exact hwf
  | cons e rest =>
    rw [step_of_event hin] at h
    exact runEvent_wf (s := setInput rest s) hwf h

end Sys2Proof.Proofs
end

section
/-! # The words the host reads (spec/10_state.md R29, R36)

A concatenation of fields is arithmetic on their numbers; each field of a word is then a quotient and
a remainder. -/

namespace Sys2Proof.Proofs

open Sys2Proof Sys2Proof.Machine

/-- A concatenation of bit vectors as a number: the low part fills the low bits. -/
theorem toNat_append_eq_mul_add {m n : Nat} (x : BitVec m) (y : BitVec n) :
    (x ++ y).toNat = x.toNat * 2 ^ n + y.toNat := by
  rw [BitVec.toNat_append, ← Nat.shiftLeft_add_eq_or_of_lt y.isLt, Nat.shiftLeft_eq]

theorem statusWord_toNat (s : State) :
    (statusWord s).toNat =
      256 * s.reqReg.toNat + 64 * s.fcause.code.toNat + 32 * s.fault.toNat + 4 * s.res.code.toNat +
        s.st.code.toNat := by
  simp only [statusWord, toNat_append_eq_mul_add, BitVec.toNat_ofBool]
  omega

theorem lenWord_toNat {s : State} (h : s.len ≤ 257) : (lenWord s).toNat = s.len := by
  rw [lenWord, toNat_append_eq_mul_add, BitVec.toNat_ofNat, BitVec.toNat_ofNat]
  omega

/-- Each field of STATUS holds the number of its value. -/
theorem statusWord_fields (s : State) :
    (statusWord s).toNat % 4 = s.st.code.toNat ∧
    (statusWord s).toNat / 4 % 8 = s.res.code.toNat ∧
    (statusWord s).toNat / 32 % 2 = s.fault.toNat ∧
    (statusWord s).toNat / 64 % 4 = s.fcause.code.toNat ∧
    (statusWord s).toNat / 256 = s.reqReg.toNat := by
  have hst : s.st.code.toNat < 4 := s.st.code.isLt
  have hres : s.res.code.toNat < 8 := s.res.code.isLt
  have hfault : s.fault.toNat < 2 := s.fault.toNat_lt
  have hfcause : s.fcause.code.toNat < 4 := s.fcause.code.isLt
  rw [statusWord_toNat]
  omega

/-- A step whose next event is a host read reads the state without that event. -/
theorem step_of_read {s : State} {port : ReadPort} {rest : List Event}
    (h : s.input = .read port :: rest) : step s = hostRead port (setInput rest s) := step_of_event h

/-- Settles O50, from the fields of the words and a host read of each. -/
theorem statusWordLayout : Obligations.StatusWordLayout := by
  constructor
  · intro s hlen
    obtain ⟨st, res, fault, fcause, reqReg⟩ := statusWord_fields s
    refine ⟨st.trans ?_, res.trans ?_, fault.trans ?_, fcause.trans ?_, reqReg, lenWord_toNat hlen,
      rfl⟩
    · cases s.st <;> rfl
    · cases s.res <;> rfl
    · cases s.fault <;> rfl
    · cases s.fcause <;> rfl
  · exact fun s rest => ⟨step_of_read, step_of_read, step_of_read⟩

theorem hostRead_fb_of_le {s : State} {i : Nat} (h : s.len ≤ i) :
    hostRead (.fb i) s = .fault (.fbNoValue i) := by
  simp only [hostRead, fbRead_eq_none_of_le h]

theorem hostRead_fb_of_some {s : State} {i : Nat} {b : Byte} (h : fbRead s i = some b) :
    hostRead (.fb i) s = .next (setHostOut (.byte b) s) := by
  simp only [hostRead, h]

/-- Settles O51: the read sees the same `len` and memory as before the event was taken. -/
theorem hostReadOfFrameBuffer : Obligations.HostReadOfFrameBuffer := by
  intro s i rest hin
  rw [step_of_read hin]
  exact ⟨fun hlen => hostRead_fb_of_le (s := setInput rest s) hlen,
    fun b hb => hostRead_fb_of_some (s := setInput rest s) hb⟩

end Sys2Proof.Proofs
end

section
/-! # Reset (spec/10_state.md R35, spec/70_reset_and_hazards.md R330) -/

namespace Sys2Proof.Proofs

open Sys2Proof Sys2Proof.Machine

/-- Settles O48: the next state is `resetBlock`, and nothing is read at or above a `len` of 0. -/
theorem resetGivesResetValues : Obligations.ResetGivesResetValues := by
  intro s rest hin
  have hstep : step s = .next (resetBlock (setInput rest s)) := step_of_event hin
  exact ⟨_, hstep, rfl, fun a => fbRead_eq_none_of_le (Nat.zero_le a)⟩

/-- A state in which no attempt has been made since reset meets the invariant: it asks nothing of
such a state beyond an empty frame buffer, no fault, and a display value for each definition. -/
theorem inv_of_no_attempt {s : State} (hst : s.st = .idle) (hres : s.res = .none)
    (hlen : s.len = 0) (hfb : s.fb = []) (hfault : s.fault = false) (hfcause : s.fcause = .none)
    (hdisp : s.disp.length = s.cfg.length) (hparams : s.params.wf = true) : Inv s where
  memory := by simp [hfb, hlen]
  capacity := by simp [hlen]
  display := hdisp
  cause := by simp [hfault, hfcause]
  syncEmpty _ := hlen
  headerLen := by simp [hst]
  payloadLen := by simp [hst]
  markerFirst := by simp [hst]
  registrySecond := by simp [hst]
  inProgress _ := hres
  complete := by simp [hres]
  okValid := by simp [hres]
  badInvalid := by simp [hres]
  errorPair := by simp [hres]
  timedOutEmpty _ := hlen
  noAttemptEmpty _ _ := hlen
  noMismatch := by simp [hres]
  notStarted _ := ⟨hst, hres⟩
  alphabets := hparams

/-- Settles O54: after reset no attempt has been made. -/
theorem invariantHoldsAtReset : Obligations.InvariantHoldsAtReset :=
  inv_of_no_attempt rfl rfl rfl rfl rfl rfl rfl (by decide)

end Sys2Proof.Proofs
end

section
/-! # The device's bytes (spec/20_memory.md R72, spec/60_exceptions.md R314) -/

namespace Sys2Proof.Proofs

open Sys2Proof Sys2Proof.Machine

/-- A step whose next event is an append of the device appends on the state without that event. -/
theorem step_of_rx {s : State} {bytes : List Byte} {rest : List Event}
    (h : s.input = .rx bytes :: rest) : step s = .next (rxAppend bytes (setInput rest s)) :=
  step_of_event h

/-- Taking the event leaves `rxq` as it was, so the bytes go behind the queue of the state before. -/
theorem rxAppend_setInput (bytes : List Byte) (rest : List Event) (s : State) :
    rxAppend bytes (setInput rest s) = { s with rxq := s.rxq ++ bytes, input := rest } := rfl

/-- Settles O52: the step is `rxAppend`, which writes the two fields and no other. -/
theorem deviceAppendsAtTail : Obligations.DeviceAppendsAtTail := by
  intro s bytes rest hin
  rw [step_of_rx hin, rxAppend_setInput]

end Sys2Proof.Proofs
end

section
/-! # The words of the two encoding spaces (spec/30_encoding.md R107 to R114)

A command word is a kind followed by a data byte, and `decode` has one equation per kind. A conversion
code either is the code of one row of `conversionRows`, whose instruction encodes to that code, or is
not assigned. Both directions of the round trip follow. -/

namespace Sys2Proof.Proofs

open Sys2Proof Sys2Proof.Machine Sys2Proof.Claims

/-! ### Command words -/

/-- R112: a command word is its kind followed by its data. -/
theorem exists_kind_append_data (w : BitVec 10) :
    ∃ (kind : BitVec 2) (data : Byte), w = kind ++ data :=
  ⟨w.extractLsb' 8 2, w.extractLsb' 0 8,
    (BitVec.extractLsb'_append_extractLsb' (w := 2) (len := 8)).symm⟩

theorem kind_cases (kind : BitVec 2) :
    kind = 0b00#2 ∨ kind = 0b01#2 ∨ kind = 0b10#2 ∨ kind = 0b11#2 := by
  revert kind
  decide

@[simp] theorem kind_of_append (kind : BitVec 2) (data : Byte) :
    (kind ++ data : BitVec 10).extractLsb' 8 2 = kind := BitVec.extractLsb'_append_eq_left

@[simp] theorem data_of_append (kind : BitVec 2) (data : Byte) :
    (kind ++ data : BitVec 10).extractLsb' 0 8 = data := BitVec.extractLsb'_append_eq_right

theorem decode_kind_step (data : Byte) :
    decode (.command (0b00#2 ++ data)) = if data = 0 then .step else .reservedStepData data := by
  simp [decode, decodeCommand]

theorem decode_kind_request (data : Byte) : decode (.command (0b01#2 ++ data)) = .request data := by
  simp [decode, decodeCommand]

theorem decode_kind_decode (data : Byte) :
    decode (.command (0b10#2 ++ data)) = if data = 0 then .decode else .reservedDecodeData data := by
  simp [decode, decodeCommand]

theorem decode_kind_reserved (data : Byte) :
    decode (.command (0b11#2 ++ data)) = .reservedK3 data := by
  simp [decode, decodeCommand]

theorem encode_decode_command (w : BitVec 10) :
    (decode (.command w)).wf = true ∧ encode (decode (.command w)) = .command w := by
  obtain ⟨kind, data, rfl⟩ := exists_kind_append_data w
  obtain rfl | rfl | rfl | rfl := kind_cases kind
  · rw [decode_kind_step]
    split_ifs with hdata
    · subst hdata
      decide
    · exact ⟨bne_iff_ne.mpr hdata, rfl⟩
  · rw [decode_kind_request]
    exact ⟨rfl, rfl⟩
  · rw [decode_kind_decode]
    split_ifs with hdata
    · subst hdata
      decide
    · exact ⟨bne_iff_ne.mpr hdata, rfl⟩
  · rw [decode_kind_reserved]
    exact ⟨rfl, rfl⟩

/-! ### Conversion codes -/

/-- R107, R108: the rows with a code of their own are those of the assigned codes. -/
theorem map_fst_conversionRows : conversionRows.map Prod.fst = assignedCodes := rfl

/-- R108: the instruction of each row is well formed, and its word is the code of the row. -/
theorem encode_of_mem_conversionRows :
    ∀ row ∈ conversionRows,
      row.2.wf = true ∧ encode row.2 = .conversion (BitVec.ofNat 16 row.1) := by decide

theorem isAssigned_eq_false_iff {code : BitVec 16} :
    isAssigned code = false ↔ ∀ row ∈ conversionRows, row.1 ≠ code.toNat := by
  rw [isAssigned, ← map_fst_conversionRows, ← Bool.not_eq_true, List.contains_iff_mem, List.mem_map]
  exact ⟨fun h row hrow hcode => h ⟨row, hrow, hcode⟩, fun h ⟨row, hrow, hcode⟩ => h row hrow hcode⟩

theorem decodeConversion_of_not_assigned {code : BitVec 16} (h : isAssigned code = false) :
    decodeConversion code = .convOther code := by
  have hnone : (conversionRows.find? fun row => row.1 == code.toNat) = none := by
    simpa using isAssigned_eq_false_iff.mp h
  rw [decodeConversion, hnone]

/-- Every way a conversion code can decode (R109). -/
theorem decodeConversion_cases (code : BitVec 16) :
    (∃ row ∈ conversionRows, row.1 = code.toNat ∧ decodeConversion code = row.2) ∨
    (isAssigned code = false ∧ decodeConversion code = .convOther code) := by
  cases hrow : conversionRows.find? fun row => row.1 == code.toNat with
  | some row =>
    exact .inl ⟨row, List.mem_of_find?_eq_some hrow, by simpa using List.find?_some hrow,
      by rw [decodeConversion, hrow]⟩
  | none =>
    have hcode : isAssigned code = false := isAssigned_eq_false_iff.mpr (by simpa using hrow)
    exact .inr ⟨hcode, decodeConversion_of_not_assigned hcode⟩

theorem encode_decode_conversion (code : BitVec 16) :
    (decode (.conversion code)).wf = true ∧
      encode (decode (.conversion code)) = .conversion code := by
  rw [decode]
  obtain ⟨row, hmem, hcode, hrow⟩ | ⟨hcode, hrow⟩ := decodeConversion_cases code
  · obtain ⟨hwf, henc⟩ := encode_of_mem_conversionRows row hmem
    rw [hrow, henc, hcode, BitVec.ofNat_toNat, BitVec.setWidth_eq]
    exact ⟨hwf, rfl⟩
  · rw [hrow]
    exact ⟨by rw [Instr.wf, hcode, Bool.not_false], rfl⟩

/-! ### The round trip -/

/-- Settles O1: an operand is the data of its word or an unassigned code; every other row has one word,
on which the decoder evaluates to the row's instruction. -/
theorem decodeOfEncodeIsIdentity : Obligations.DecodeOfEncodeIsIdentity := by
  intro i hwf
  cases i with
  | request reg => exact decode_kind_request reg
  | reservedK3 data => exact decode_kind_reserved data
  | reservedStepData data => exact (decode_kind_step data).trans (if_neg (bne_iff_ne.mp hwf))
  | reservedDecodeData data => exact (decode_kind_decode data).trans (if_neg (bne_iff_ne.mp hwf))
  | convOther code => exact decodeConversion_of_not_assigned (by simpa [Instr.wf] using hwf)
  | _ => rfl

/-- Settles O2, one encoding space at a time. -/
theorem encodeOfDecodeIsIdentity : Obligations.EncodeOfDecodeIsIdentity := by
  intro w
  cases w with
  | command w => exact encode_decode_command w
  | conversion code => exact encode_decode_conversion code

/-- Settles O3: the nine words are closed, so the decoder evaluates on each. -/
theorem sampleWordsDecode : Obligations.SampleWordsDecode := by
  unfold Obligations.SampleWordsDecode
  decide

/-! ### Reserved command words -/

/-- Recording a fault is the refusal of the claims: the first cause is kept (R302). -/
theorem raiseFault_eq_refused (c : FCause) (s : State) : raiseFault c s = Refused c s := by
  cases hfault : s.fault with
  | true => rw [raiseFault_again c s hfault, Refused, hfault, if_pos rfl, ← hfault]
  | false => rw [raiseFault_first c s hfault, Refused, hfault, if_neg Bool.false_ne_true]

/-- The three reserved instructions have one meaning, whatever their data (R113). -/
theorem exec_reserved (data : Byte) (s : State) :
    exec (.reservedK3 data) s = .next (Refused .reservedCmd s) ∧
    exec (.reservedStepData data) s = .next (Refused .reservedCmd s) ∧
    exec (.reservedDecodeData data) s = .next (Refused .reservedCmd s) := by
  have h : (.next (raiseFault .reservedCmd s) : Host.Outcome State Fault Refusal) =
      .next (Refused .reservedCmd s) := by rw [raiseFault_eq_refused]
  exact ⟨h, h, h⟩

/-- The kind and the data of a command word as numbers (R112). -/
theorem command_toNat_fields (kind : BitVec 2) (data : Byte) :
    (kind ++ data).toNat / 256 = kind.toNat ∧ (kind ++ data).toNat % 256 = data.toNat := by
  have hdata : data.toNat < 256 := data.isLt
  rw [toNat_append_eq_mul_add]
  omega

/-- R113: the words reserved by their numbers decode to the three reserved instructions. -/
theorem decode_of_reserved {w : BitVec 10}
    (h : w.toNat / 256 = 3 ∨ (w.toNat / 256 = 0 ∨ w.toNat / 256 = 2) ∧ w.toNat % 256 ≠ 0) :
    ∃ data, decode (.command w) = .reservedK3 data ∨ decode (.command w) = .reservedStepData data ∨
      decode (.command w) = .reservedDecodeData data := by
  obtain ⟨kind, data, rfl⟩ := exists_kind_append_data w
  obtain ⟨hkind, hdata⟩ := command_toNat_fields kind data
  rw [hkind, hdata] at h
  have hne (h0 : data.toNat ≠ 0) : data ≠ 0 := fun hz => h0 (congrArg BitVec.toNat hz)
  refine ⟨data, ?_⟩
  obtain rfl | rfl | rfl | rfl := kind_cases kind
  · exact .inr (.inl ((decode_kind_step data).trans (if_neg (hne (by simpa using h)))))
  · simp at h
  · exact .inr (.inr ((decode_kind_decode data).trans (if_neg (hne (by simpa using h)))))
  · exact .inl (decode_kind_reserved data)

/-- Settles O11: a reserved word decodes to one of the three reserved instructions, and each of them
only records the fault. -/
theorem reservedWordsOnlyRecordFault : Obligations.ReservedWordsOnlyRecordFault := by
  intro s
  refine ⟨fun w hw => ?_, fun d => exec_reserved d s⟩
  obtain ⟨data, hdecode⟩ := decode_of_reserved hw
  obtain ⟨hK3, hStepData, hDecodeData⟩ := exec_reserved data s
  obtain h | h | h := hdecode
  · rw [h, hK3]
  · rw [h, hStepData]
  · rw [h, hDecodeData]

/-! ### Words as events -/

/-- A step whose next event is a command word presents its time and runs what it decodes to. -/
theorem step_of_command {s : State} {w : BitVec 10} {t : BitVec 32} {rest : List Event}
    (h : s.input = .command w t :: rest) :
    step s = exec (decode (.command w)) (present t (setInput rest s)) := step_of_event h

/-- A step whose next event is a conversion code runs its row on the slice presented with it. -/
theorem step_of_convert {s : State} {code : BitVec 16} {sl : Slice} {rest : List Event}
    (h : s.input = .convert code sl :: rest) :
    step s = exec (decode (.conversion code)) (setConvIn sl (setInput rest s)) := step_of_event h

/-- Settles O5, from the step of each of the two events that carry a word. -/
theorem stepRunsDecodedInstruction : Obligations.StepRunsDecodedInstruction := by
  intro s i rest _
  constructor
  · rintro w t rfl hin
    exact step_of_command hin
  · rintro code sl rfl hin
    exact step_of_convert hin

end Sys2Proof.Proofs
end

section
/-! # The request frame (spec/30_encoding.md R101, spec/40_crc_frame.md R141, R149) -/

namespace Sys2Proof.Proofs

open Sys2Proof Sys2Proof.Machine

/-- R141: bytes followed by their checksum validate. -/
theorem validate_append_checksum {b : List Byte} (hb : b ≠ []) :
    validate (b ++ [checksum b]) = true := by
  have hlen : 0 < b.length := List.length_pos_iff.mpr hb
  simp only [validate, List.getLast?_concat, List.dropLast_concat, List.length_append,
    List.length_singleton, BEq.rfl, Bool.and_true, decide_eq_true_eq]
  omega

/-- R101, R142: the bytes of the request, the sum of its checksum written out. -/
theorem makeRequest_eq (r : Byte) :
    makeRequest r = [0x03, 0x40, r, ~~~ (0x03 + 0x40 + r)] := rfl

/-- Settles O8: the frame is three bytes followed by their checksum. -/
theorem requestFrameIsValid : Obligations.RequestFrameIsValid :=
  fun r => ⟨makeRequest_eq r, validate_append_checksum (List.cons_ne_nil _ _)⟩

end Sys2Proof.Proofs
end

section
/-! # Configuration records and the boot (spec/30_encoding.md R110, R111, spec/70_reset_and_hazards.md
R331, R332)

`unpack_pack` and `pack_of_unpack` say that `unpack` finds the definition that packs to the record, and
no other; `map_pack_of_unpackAll` says so of each record of a configuration. -/

namespace Sys2Proof.Proofs

open Sys2Proof Sys2Proof.Machine

/-! ### One record -/

/-- Bit [24] of a record as the byte count it names (R110). -/
theorem byteCount_of_bit (n : ByteCount) :
    (if n.bit = 1#1 then ByteCount.two else .one) = n := by cases n <;> rfl

theorem bit_of_byteCount (b : BitVec 1) :
    (if b = 1#1 then ByteCount.two else .one).bit = b := by
  revert b
  decide

theorem byteCount_toNat (n : ByteCount) : n.toNat = n.bit.toNat + 1 := by cases n <;> rfl

theorem wf_iff_reserved {r : ConfigRecord} : r.wf = true ↔ r.word.extractLsb' 25 7 = 0 := beq_iff_eq

/-- A record has a meaning iff it is well formed (R111). -/
theorem unpack_isSome (r : ConfigRecord) : (RegDef.unpack r).isSome = r.wf := by
  cases hwf : r.wf <;> simp [RegDef.unpack, hwf]

theorem unpack_eq_none_iff {r : ConfigRecord} :
    RegDef.unpack r = none ↔ r.word.extractLsb' 25 7 ≠ 0 := by
  rw [Ne, ← wf_iff_reserved, ← unpack_isSome, Bool.not_eq_true, Option.isSome_eq_false_iff,
    Option.isNone_iff_eq_none]

/-- The packed word as a number, each field at its place (R110). -/
theorem pack_word_toNat (d : RegDef) :
    d.pack.word.toNat =
      2 ^ 32 * d.conversionCode.toNat + 2 ^ 24 * d.byteCount.bit.toNat + 2 ^ 16 * d.offset.toNat +
        2 ^ 8 * d.registryID.toNat + d.mode.toNat := by
  simp only [RegDef.pack, toNat_append_eq_mul_add, BitVec.toNat_ofNat]
  omega

/-- The fields of a packed word, each read back from its bits (R110). -/
theorem extractLsb'_pack_word (d : RegDef) :
    d.pack.word.extractLsb' 0 8 = d.mode ∧ d.pack.word.extractLsb' 8 8 = d.registryID ∧
    d.pack.word.extractLsb' 16 8 = d.offset ∧ d.pack.word.extractLsb' 24 1 = d.byteCount.bit ∧
    d.pack.word.extractLsb' 25 7 = 0 ∧ d.pack.word.extractLsb' 32 16 = d.conversionCode := by
  have hmode := d.mode.isLt
  have hregistry := d.registryID.isLt
  have hoffset := d.offset.isLt
  have hbit := d.byteCount.bit.isLt
  have hcode := d.conversionCode.isLt
  simp only [← BitVec.toNat_inj, BitVec.extractLsb'_toNat, Nat.shiftRight_eq_div_pow, pack_word_toNat,
    BitVec.ofNat_eq_ofNat, BitVec.toNat_zero]
  omega

theorem unpack_pack (d : RegDef) : RegDef.unpack d.pack = some d := by
  obtain ⟨mode, registryID, offset, bit, reserved, conversionCode⟩ := extractLsb'_pack_word d
  rw [RegDef.unpack, if_pos (wf_iff_reserved.mpr reserved), mode, registryID, offset, bit,
    conversionCode, byteCount_of_bit]
  rfl

/-- An unpacked record packs to itself: its fields and the reserved zeros, put together, are its word. -/
theorem pack_of_unpack {r : ConfigRecord} {d : RegDef} (h : RegDef.unpack r = some d) : d.pack = r := by
  have hwf : r.wf = true := by rw [← unpack_isSome, h, Option.isSome_some]
  rw [RegDef.unpack, if_pos hwf] at h
  cases h
  have hreserved : (0 : BitVec 7) = r.word.extractLsb' 25 7 := (wf_iff_reserved.mp hwf).symm
  have hword : r.word.extractLsb' 32 16 ++ (0 : BitVec 7) ++ r.word.extractLsb' 24 1 ++
      r.word.extractLsb' 16 8 ++ r.word.extractLsb' 8 8 ++ r.word.extractLsb' 0 8 = r.word := by
    rw [hreserved]
    simp only [BitVec.extractLsb'_append_extractLsb'_eq_extractLsb', BitVec.extractLsb'_eq_self]
  simp only [RegDef.pack, bit_of_byteCount]
  exact congrArg (ConfigRecord.mk · r.label) hword

/-- The fields of a packed definition, by arithmetic on the word (R110). -/
theorem pack_word_fields (d : RegDef) :
    d.mode.toNat = d.pack.word.toNat % 2 ^ 8 ∧
    d.registryID.toNat = d.pack.word.toNat / 2 ^ 8 % 2 ^ 8 ∧
    d.offset.toNat = d.pack.word.toNat / 2 ^ 16 % 2 ^ 8 ∧
    d.byteCount.toNat = d.pack.word.toNat / 2 ^ 24 % 2 + 1 ∧
    d.conversionCode.toNat = d.pack.word.toNat / 2 ^ 32 := by
  have hmode := d.mode.isLt
  have hregistry := d.registryID.isLt
  have hoffset := d.offset.isLt
  have hbit := d.byteCount.bit.isLt
  rw [pack_word_toNat, byteCount_toNat]
  omega

/-- Settles O4: a record that unpacks is a packed definition, so its fields are those of the
definition's word. -/
theorem configRecordPacking : Obligations.ConfigRecordPacking := by
  refine ⟨unpack_pack, fun r => unpack_eq_none_iff, fun r d h => ?_⟩
  obtain rfl := pack_of_unpack h
  obtain ⟨mode, registryID, offset, byteCount, conversionCode⟩ := pack_word_fields d
  exact ⟨rfl, mode, registryID, offset, byteCount, conversionCode, rfl⟩

/-! ### A configuration -/

theorem configWf_cons (r : ConfigRecord) (rs : List ConfigRecord) :
    configWf (r :: rs) = (r.wf && configWf rs) := List.all_cons

/-- A configuration unpacks iff it is well formed (R111). -/
theorem unpackAll_isSome (rs : List ConfigRecord) : (unpackAll rs).isSome = configWf rs := by
  induction rs with
  | nil => rfl
  | cons r rs ih =>
    rw [configWf_cons, ← ih, ← unpack_isSome, unpackAll]
    cases RegDef.unpack r <;> cases unpackAll rs <;> rfl

/-- The table of a configuration packs back to its records, in order. -/
theorem map_pack_of_unpackAll {rs : List ConfigRecord} {ds : List RegDef}
    (h : unpackAll rs = some ds) : ds.map RegDef.pack = rs := by
  induction rs generalizing ds with
  | nil => cases h; rfl
  | cons r rs ih =>
    unfold unpackAll at h
    split at h
    next d ds' hd hds =>
      cases h
      rw [List.map_cons, pack_of_unpack hd, ih hds]
    next => cases h

/-! ### The boot -/

theorem boot_of_fixed {s : State} (p : Config.Params) (rs : List ConfigRecord)
    (hfixed : s.cfgFixed = true) : boot p rs s = .refused .configChanged := if_pos hfixed

theorem boot_of_unpackAll_eq_none {s : State} {p : Config.Params} {rs : List ConfigRecord}
    (hfixed : s.cfgFixed = false) (hp : p.wf = true) (hrs : unpackAll rs = none) :
    boot p rs s = .refused .illFormedConfig := by simp [boot, hfixed, hp, hrs]

theorem boot_of_unpackAll {s : State} {p : Config.Params} {rs : List ConfigRecord} {ds : List RegDef}
    (hfixed : s.cfgFixed = false) (hp : p.wf = true) (hrs : unpackAll rs = some ds) :
    boot p rs s = .next (configure p ds s) := by simp [boot, hfixed, hp, hrs]

/-- A step whose next event is a boot boots the state without that event. -/
theorem step_of_boot {s : State} {p : Config.Params} {rs : List ConfigRecord} {rest : List Event}
    (h : s.input = .boot p rs :: rest) : step s = boot p rs (setInput rest s) := step_of_event h

/-- Settles O49, one way of the boot at a time: the table that a well-formed configuration unpacks to
has a definition, and so a display value, for each record. -/
theorem bootLoadsWellFormedConfig : Obligations.BootLoadsWellFormedConfig := by
  intro s p rs rest hin hp
  rw [step_of_boot hin]
  refine ⟨boot_of_fixed (s := setInput rest s) p rs, fun hfixed hrs => ?_, fun hfixed hrs => ?_⟩
  · rw [← unpackAll_isSome, Option.isSome_eq_false_iff, Option.isNone_iff_eq_none] at hrs
    exact boot_of_unpackAll_eq_none (s := setInput rest s) hfixed hp hrs
  · rw [← unpackAll_isSome, Option.isSome_iff_exists] at hrs
    obtain ⟨ds, hds⟩ := hrs
    have hpack : ds.map RegDef.pack = rs := map_pack_of_unpackAll hds
    refine ⟨_, boot_of_unpackAll (s := setInput rest s) hfixed hp hds, rfl, hpack, ?_, rfl, rfl⟩
    rw [configure_disp, ← hpack, List.length_map]

end Sys2Proof.Proofs
end

section
/-! # The checksum and the frame accessors (spec/40_crc_frame.md R140 to R147)

The accumulator of `checksum` is arithmetic modulo 256, and `validate` has one equation for a sequence
split at its last byte. An accessor matches on the length of the sequence; `FrameAccessors` says the
same through the bytes at fixed indices. -/

namespace Sys2Proof.Proofs

open Sys2Proof Sys2Proof.Machine

/-! ### The checksum -/

/-- R140: the accumulator holds the sum of its start and the bytes, modulo 256. -/
theorem byteSum_toNat (acc : Byte) (b : List Byte) :
    (byteSum acc b).toNat = (acc.toNat + (b.map BitVec.toNat).sum) % 256 := by
  induction b generalizing acc with
  | nil =>
    have hacc : acc.toNat < 256 := acc.isLt
    rw [byteSum, List.map_nil, List.sum_nil, Nat.add_zero, Nat.mod_eq_of_lt hacc]
  | cons x b ih =>
    rw [byteSum, ih, BitVec.toNat_add, List.map_cons, List.sum_cons]
    omega

/-- Settles O6: the complement of the accumulator, which starts at 0. -/
theorem checksumIsComplementOfSum : Obligations.ChecksumIsComplementOfSum := by
  intro b
  have hstart : (0 : Byte).toNat = 0 := rfl
  rw [checksum, BitVec.toNat_not, byteSum_toNat, hstart, Nat.zero_add]

/-- R141: what `validate` asks of a sequence with a last byte. -/
theorem validate_append_singleton (b : List Byte) (c : Byte) :
    validate (b ++ [c]) = true ↔ b ≠ [] ∧ checksum b = c := by
  simp only [validate, List.getLast?_concat, List.dropLast_concat, List.length_append,
    List.length_singleton, Bool.and_eq_true, decide_eq_true_eq, beq_iff_eq, ← List.length_pos_iff]
  exact and_congr_left' (by omega)

/-- Settles O7: a sequence is empty, which does not validate, or is split at its last byte. -/
theorem validateIffLastIsChecksum : Obligations.ValidateIffLastIsChecksum := by
  intro f
  constructor
  · intro h
    obtain rfl | ⟨b, c, rfl⟩ := f.eq_nil_or_concat'
    · cases h
    · obtain ⟨hb, rfl⟩ := (validate_append_singleton b c).mp h
      exact ⟨b, hb, rfl⟩
  · rintro ⟨b, hb, rfl⟩
    exact validate_append_checksum hb

/-! ### The accessors -/

theorem hasMinimalHeader_iff (f : List Byte) : hasMinimalHeader f = true ↔ 3 ≤ f.length :=
  decide_eq_true_iff

theorem expectedLength_eq (f : List Byte) :
    expectedLength f = (f[2]?.map fun n => n.toNat + 2).getD 0 := by
  match f with
  | [] | [_] | [_, _] | _ :: _ :: _ :: _ => rfl

theorem isErrorFrame_iff (f : List Byte) :
    isErrorFrame f = true ↔ f[0]? = some 0x15 ∧ f[1]? = some 0xEA := by
  match f with
  | [] | [_] => simp [isErrorFrame]
  | a :: b :: _ => simp [isErrorFrame, Config.errorFirst, Config.errorSecond]

theorem isValidProtocol_iff (f : List Byte) : isValidProtocol f = true ↔ f[0]? = some 0x40 := by
  cases f with
  | nil => simp [isValidProtocol]
  | cons a _ => simp [isValidProtocol, Config.marker]

theorem registryID_eq (f : List Byte) : registryID f = f[1]?.getD 0 := by
  match f with
  | [] | [_] | _ :: _ :: _ => rfl

/-- Settles O9, from the lemma of each accessor. -/
theorem frameAccessors : Obligations.FrameAccessors := by
  intro f
  refine ⟨hasMinimalHeader_iff f, ?_, isErrorFrame_iff f, isValidProtocol_iff f, registryID_eq f⟩
  rw [expectedLength_eq]
  cases f[2]? <;> rfl

end Sys2Proof.Proofs
end

section
/-! # REQUEST, and the commands refused during an attempt (spec/40_crc_frame.md R150,
spec/43_decode.md R280) -/

namespace Sys2Proof.Proofs

open Sys2Proof Sys2Proof.Machine Sys2Proof.Claims

theorem exec_request_of_busy {s : State} (reg : Byte) (h : s.st ≠ .idle) :
    exec (.request reg) s = .next (Refused .busyRequest s) := by
  rw [← raiseFault_eq_refused]
  exact if_pos h

theorem exec_decode_of_busy {s : State} (h : s.st ≠ .idle) :
    exec .decode s = .next (Refused .busyDecode s) := by
  rw [← raiseFault_eq_refused]
  exact if_pos h

/-- In `IDLE` the attempt starts behind the four bytes of the request; the flush changes no state
(R67). -/
theorem exec_request_of_idle {s : State} (reg : Byte) (h : s.st = .idle) :
    exec (.request reg) s = .next (startAttempt reg (txPutAll (makeRequest reg) s)) :=
  if_neg (not_not.mpr h)

/-- Settles O10, one command at a time. -/
theorem busyCommandsAreRefused : Obligations.BusyCommandsAreRefused :=
  fun _ reg h => ⟨exec_request_of_busy reg h, exec_decode_of_busy h⟩

/-- Settles O13: the next state is `startAttempt` behind the request's bytes, and nothing is read at or
above its `len` of 0. -/
theorem requestStartsAttempt : Obligations.RequestStartsAttempt := by
  refine fun s reg => ⟨exec_request_of_busy reg, fun hidle => ⟨_, exec_request_of_idle reg hidle, ?_,
    fun a => fbRead_eq_none_of_le (Nat.zero_le a)⟩⟩
  rw [makeRequest_eq, txPutAll_eq]
  rfl

end Sys2Proof.Proofs
end

section
/-! # The rows of the Value Conversion Table as instructions (spec/41_conversion.md R170, R176, R177,
R215) -/

namespace Sys2Proof.Proofs

open Sys2Proof Sys2Proof.Machine Sys2Proof.Claims

/-- Settles O31: no command word is the word of a code, and every other row answers its own arm of
`convert`. -/
theorem conversionRowsAreConvert : Obligations.ConversionRowsAreConvert := by
  intro code s
  obtain ⟨-, hword⟩ := encode_decode_conversion code
  rw [decode] at hword ⊢
  unfold convert
  cases hi : decodeConversion code with
  | step | request _ | decode | reservedK3 _ | reservedStepData _ | reservedDecodeData _ =>
    rw [hi] at hword
    cases hword
  | _ => rfl

/-- Settles O32: each row answers its string by definition. -/
theorem plainCodes : Obligations.PlainCodes := fun _ _ _ _ => ⟨rfl, rfl, rfl, rfl⟩

end Sys2Proof.Proofs
end

section
/-! # What a conversion reads of its slice (spec/41_conversion.md R171)

The model reads a slice by bit vectors, the statements by arithmetic: here the two are the same. -/

namespace Sys2Proof.Proofs

open Sys2Proof Sys2Proof.Machine Sys2Proof.Claims

/-! ### The whole slice -/

@[simp] theorem u16_little (s : Slice) : u16 s .little = unsignedLe s := by
  cases s with
  | one a => rfl
  | two a b => exact toNat_append_eq_mul_add b a

@[simp] theorem u16_big (s : Slice) : u16 s .big = unsignedBe s := by
  cases s with
  | one a => rfl
  | two a b => exact toNat_append_eq_mul_add a b

/-- Two's complement of one byte, by arithmetic. -/
theorem toInt_byte (a : Byte) : a.toInt = toSigned (.one a) a.toNat := by
  rw [BitVec.toInt_eq_toNat_cond, toSigned]
  split_ifs <;> omega

/-- Two's complement of two bytes, by arithmetic. -/
theorem toInt_two_bytes (a b hi lo : Byte) :
    (hi ++ lo).toInt = toSigned (.two a b) (hi.toNat * 256 + lo.toNat) := by
  rw [BitVec.toInt_eq_toNat_cond, toNat_append_eq_mul_add, toSigned]
  split_ifs <;> omega

@[simp] theorem s16_little (s : Slice) : s16 s .little = signedLe s := by
  cases s with
  | one a => exact toInt_byte a
  | two a b => exact toInt_two_bytes a b b a

@[simp] theorem s16_big (s : Slice) : s16 s .big = signedBe s := by
  cases s with
  | one a => exact toInt_byte a
  | two a b => exact toInt_two_bytes a b a b

/-! ### Its first byte -/

@[simp] theorem byte0_toNat (s : Slice) : (byte0 s).toNat = firstByte s := by
  cases s <;> rfl

theorem byte0_eq_iff (s : Slice) (b : Byte) : byte0 s = b ↔ firstByte s = b.toNat := by
  rw [← byte0_toNat, BitVec.toNat_inj]

theorem firstByte_lt (s : Slice) : firstByte s < 256 := by
  rw [← byte0_toNat]
  exact (byte0 s).isLt

@[simp] theorem highNibble_toNat (s : Slice) : (highNibble (byte0 s)).toNat = firstByte s / 16 := by
  have hlt := firstByte_lt s
  rw [highNibble, BitVec.extractLsb'_toNat, byte0_toNat, Nat.shiftRight_eq_div_pow]
  omega

theorem highNibble_eq_iff (s : Slice) (h : BitVec 4) :
    highNibble (byte0 s) = h ↔ firstByte s / 16 = h.toNat := by
  rw [← highNibble_toNat, BitVec.toNat_inj]

@[simp] theorem lowNibble_toNat (s : Slice) : (lowNibble (byte0 s)).toNat = firstByte s % 16 := by
  rw [lowNibble, BitVec.extractLsb'_toNat, byte0_toNat, Nat.shiftRight_zero]

@[simp] theorem byte0_getLsbD (s : Slice) (k : Nat) :
    (byte0 s).getLsbD k = decide (firstByte s / 2 ^ k % 2 = 1) := by
  rw [BitVec.getLsbD, byte0_toNat, Nat.testBit_eq_decide_div_mod_eq]

end Sys2Proof.Proofs
end

section
/-! # The codes that only choose a reading of the slice (spec/41_conversion.md R178 to R208) -/

namespace Sys2Proof.Proofs

open Sys2Proof Sys2Proof.Machine Sys2Proof.Claims

/-- A row answers `out` where the string it shows is `out`. -/
theorem answers_of_convResult {i : Instr} {s : State} {shown out : Str}
    (hexec : exec i s = convResult shown s) (hout : shown = out) : Answers i s out := by
  rw [Answers, hexec, hout]
  rfl

/-- Settles O33, from the signed reading in each byte order. -/
theorem signedCodes : Obligations.SignedCodes := by
  intro s
  rw [← s16_little, ← s16_big]
  exact ⟨rfl, rfl, rfl, rfl, rfl, rfl⟩

/-- Settles O34, from the signed reading in each byte order. -/
theorem sentinelCodes : Obligations.SentinelCodes := by
  intro s
  rw [← s16_little, ← s16_big]
  exact ⟨rfl, rfl⟩

/-- Settles O35, from the unsigned reading in each byte order. -/
theorem unsignedCodes : Obligations.UnsignedCodes := by
  intro s
  rw [← u16_little, ← u16_big]
  exact ⟨rfl, rfl, rfl, rfl, rfl, rfl⟩

theorem modeName_of_some {p : Config.Params} {s : Slice} {name : Str}
    (h : p.modeNames[firstByte s]? = some name) : modeName p (byte0 s) = name := by
  rw [modeName, byte0_toNat, h]

theorem modeName_of_ge {p : Config.Params} {s : Slice} (h : 19 ≤ firstByte s) :
    modeName p (byte0 s) = ascii "-" := by
  have hnone : p.modeNames[firstByte s]? = none := Vector.getElem?_eq_none h
  rw [modeName, byte0_toNat, hnone]

theorem convert204_of_some {p : Config.Params} {s : Slice} {hi lo : Byte}
    (hhi : p.alphaHi[firstByte s / 16]? = some hi) (hlo : p.alphaLo[firstByte s % 16]? = some lo) :
    convert204 p s = [hi, lo] := by
  obtain ⟨_, rfl⟩ := Vector.getElem?_eq_some_iff.mp hhi
  obtain ⟨_, rfl⟩ := Vector.getElem?_eq_some_iff.mp hlo
  simp only [convert204, highNibble_toNat, lowNibble_toNat]

/-- Settles O37: the byte or its nibbles are the indices into the tables. -/
theorem tableCodes : Obligations.TableCodes := by
  refine fun s hi lo mode => ⟨fun hhi hlo => ?_, fun hmode => ?_, fun hge => ?_⟩
  · exact answers_of_convResult rfl (convert204_of_some hhi hlo)
  · exact ⟨answers_of_convResult rfl (modeName_of_some hmode),
      answers_of_convResult rfl (modeName_of_some hmode)⟩
  · exact ⟨answers_of_convResult rfl (modeName_of_ge hge),
      answers_of_convResult rfl (modeName_of_ge hge)⟩

theorem onOff_bit (s : Slice) (k : Nat) :
    onOff ((byte0 s).getLsbD k) =
      if firstByte s / 2 ^ k % 2 = 1 then ascii "ON" else ascii "OFF" := by
  simp only [onOff, byte0_getLsbD, decide_eq_true_eq]

/-- Settles O38, from the bit as a quotient of the byte. -/
theorem flagCodes : Obligations.FlagCodes := by
  intro s
  simp only [← onOff_bit]
  exact ⟨rfl, rfl, rfl, rfl, rfl, rfl, rfl, rfl⟩

/-- Settles O40: the names of each row are tried in the order of the nibble. -/
theorem highNibbleCodes : Obligations.HighNibbleCodes := by
  refine fun s => ⟨answers_of_convResult rfl ?_, answers_of_convResult rfl ?_⟩
  · simp only [convert315, highNibble_eq_iff]
    generalize firstByte s.convIn / 16 = h
    match h with
    | 0 | 1 | 2 | 3 | 4 | 5 | 6 => rfl
    | h + 7 => rfl
  · simp only [convert316, highNibble_eq_iff]
    generalize firstByte s.convIn / 16 = h
    match h with
    | 0 | 1 | 2 => rfl
    | h + 3 => rfl

end Sys2Proof.Proofs
end

section
/-! # The classification of the codes and the results interface (spec/41_conversion.md R175,
spec/43_decode.md R288) -/

namespace Sys2Proof.Proofs

open Sys2Proof Sys2Proof.Machine Sys2Proof.Claims

theorem isText_eq_false_iff (code : BitVec 16) :
    isText code = false ↔
      (101 ≤ code.toNat ∧ code.toNat ≤ 108) ∨ (151 ≤ code.toNat ∧ code.toNat ≤ 156) ∨
        code.toNat = 312 ∨ (401 ≤ code.toNat ∧ code.toNat ≤ 406) := by
  rw [isText, Bool.not_eq_false', List.contains_iff_mem]
  simp only [numericCodes, List.flatten_cons, List.flatten_nil, List.mem_append, List.mem_cons,
    List.not_mem_nil, or_false]
  omega

theorem resultAt_of_some {s : State} {i : Nat} {d : RegDef} {v : Str} (hd : s.cfg[i]? = some d)
    (hv : s.disp[i]? = some v) : resultAt s i = some (.entry d.label v (isText d.conversionCode)) := by
  rw [resultAt, hd, hv]

theorem resultAt_of_le {s : State} {i : Nat} (h : s.cfg.length ≤ i ∨ s.disp.length ≤ i) :
    resultAt s i = none := by
  rcases h with h | h
  · rw [resultAt, List.getElem?_eq_none h]
  · rw [resultAt, List.getElem?_eq_none h]
    cases s.cfg[i]? <;> rfl

/-- Settles O53, from what the results interface gives for the entry. -/
theorem numericCodes : Obligations.NumericCodes := by
  refine ⟨isText_eq_false_iff, fun s i rest hin => ⟨fun d v hd hv => ?_, fun hle => ?_⟩⟩
  · rw [step_of_read hin, hostRead, resultAt_of_some (by exact hd) (by exact hv)]
    rfl
  · rw [step_of_read hin, hostRead, resultAt_of_le (by exact hle)]

end Sys2Proof.Proofs
end

section
/-! # Logarithms to a base (spec/41_conversion.md R173)

`floorLog` searches upwards or downwards with fuel. `floorLog_cases` says what it finds, and
`floorLog_bracket` the same of the rational quotient, which determines it (`floorLog_eq`). -/

namespace Sys2Proof.Proofs

open Sys2Proof Sys2Proof.Machine Sys2Proof.Claims

/-! ### The two searches -/

/-- With fuel for every power up to the quotient, the upward search finds the last power below it. -/
theorem logUp_spec {base fuel num den : Nat} (e : Nat) (hle : den ≤ num)
    (hfuel : num < base ^ fuel * den) :
    ∃ k, logUp base fuel num den e = e + k ∧ base ^ k * den ≤ num ∧ num < base ^ (k + 1) * den := by
  induction fuel generalizing den e with
  | zero =>
    rw [pow_zero, one_mul] at hfuel
    omega
  | succ fuel ih =>
    rw [logUp]
    split_ifs with hlt
    · exact ⟨0, rfl, by simpa using hle, by simpa using hlt⟩
    · rw [pow_succ, mul_assoc] at hfuel
      obtain ⟨k, hk, hlo, hhi⟩ := ih (e + 1) (not_lt.mp hlt) hfuel
      exact ⟨k + 1, by omega, by rwa [pow_succ, mul_assoc], by rwa [pow_succ, mul_assoc]⟩

theorem logDown_of_le {base num den : Nat} (fuel k : Nat) (h : den ≤ num) :
    logDown base fuel num den k = k := by
  cases fuel with
  | zero => rfl
  | succ fuel => exact if_pos h

/-- With fuel for every power up to the inverse of the quotient, the downward search finds the first
power at or above it. -/
theorem logDown_spec {base fuel num den : Nat} (e : Nat) (hlt : num < den)
    (hfuel : den ≤ base ^ fuel * num) :
    ∃ k, logDown base fuel num den e = e + (k + 1) ∧
      den ≤ base ^ (k + 1) * num ∧ base ^ k * num < den := by
  induction fuel generalizing num e with
  | zero =>
    rw [pow_zero, one_mul] at hfuel
    omega
  | succ fuel ih =>
    rw [logDown, if_neg hlt.not_ge]
    rcases Nat.lt_or_ge (base * num) den with hnext | hnext
    · rw [pow_succ, mul_assoc] at hfuel
      obtain ⟨k, hk, hhi, hlo⟩ := ih (e + 1) hnext hfuel
      exact ⟨k + 1, by omega, by rwa [pow_succ, mul_assoc], by rwa [pow_succ, mul_assoc]⟩
    · exact ⟨0, logDown_of_le fuel _ hnext, by simpa using hnext, by simpa using hlt⟩

/-! ### What they find -/

/-- Every value of `floorLog`: an exponent of a quotient from 1 on, or the negative one of a quotient
below 1. -/
theorem floorLog_cases {base num den : Nat} (hbase : 1 < base) (hnum : 0 < num) (hden : 0 < den) :
    (∃ e : Nat, floorLog base num den = e ∧ base ^ e * den ≤ num ∧ num < base ^ (e + 1) * den) ∨
    (∃ e : Nat, floorLog base num den = - ((e : Int) + 1) ∧
      den ≤ base ^ (e + 1) * num ∧ base ^ e * num < den) := by
  rw [floorLog]
  split_ifs with hle
  · have hfuel : num < base ^ num * den :=
      (Nat.lt_pow_self hbase).trans_le (Nat.le_mul_of_pos_right _ hden)
    obtain ⟨k, hk, hlo, hhi⟩ := logUp_spec 0 hle hfuel
    exact .inl ⟨k, by omega, hlo, hhi⟩
  · have hfuel : den ≤ base ^ den * num :=
      (Nat.lt_pow_self hbase).le.trans (Nat.le_mul_of_pos_right _ hnum)
    obtain ⟨k, hk, hhi, hlo⟩ := logDown_spec 0 (not_le.mp hle) hfuel
    exact .inr ⟨k, by omega, hhi, hlo⟩

/-- Settles O45: it is `floorLog_cases` in base ten. -/
theorem decimalExponent : Obligations.DecimalExponent :=
  fun _ _ hnum hden => floorLog_cases (by decide) hnum hden

/-- R173: `floorLog` brackets the quotient between two powers. -/
theorem floorLog_bracket {base num den : Nat} (hbase : 1 < base) (hnum : 0 < num) (hden : 0 < den) :
    (base : ℚ) ^ floorLog base num den ≤ num / den ∧
      (num / den : ℚ) < base ^ (floorLog base num den + 1) := by
  have hbase' : (0 : ℚ) < base := by positivity
  have hden' : (0 : ℚ) < den := by positivity
  obtain ⟨e, he, hlo, hhi⟩ | ⟨e, he, hhi, hlo⟩ := floorLog_cases hbase hnum hden
  · rw [he, le_div_iff₀ hden', div_lt_iff₀ hden']
    exact_mod_cast And.intro hlo hhi
  · have hsucc : -((e : ℤ) + 1) + 1 = -e := by omega
    rw [he, hsucc, zpow_neg, zpow_neg, inv_le_iff_one_le_mul₀' (by positivity),
      mul_div_assoc', one_le_div₀ hden', ← one_div, div_lt_div_iff₀ hden' (by positivity), one_mul,
      mul_comm (num : ℚ)]
    exact_mod_cast And.intro hhi hlo

/-- Two powers that bracket the quotient determine `floorLog`. -/
theorem floorLog_eq {base num den : Nat} {e : ℤ} (hbase : 1 < base) (hnum : 0 < num) (hden : 0 < den)
    (hlo : (base : ℚ) ^ e ≤ num / den) (hhi : (num / den : ℚ) < base ^ (e + 1)) :
    floorLog base num den = e := by
  obtain ⟨hlo', hhi'⟩ := floorLog_bracket hbase hnum hden
  have hbase' : (1 : ℚ) < base := by exact_mod_cast hbase
  have hle := (zpow_lt_zpow_iff_right₀ hbase').mp (hlo'.trans_lt hhi)
  have hge := (zpow_lt_zpow_iff_right₀ hbase').mp (hlo.trans_lt hhi')
  omega

/-- A number between two powers stays between two powers when it is divided by a power. -/
theorem div_pow_bracket {base q t : Nat} (k : Nat) (hbase : 0 < base) (hlo : base ^ t ≤ q)
    (hhi : q < base ^ (t + 1)) :
    (base : ℚ) ^ ((t : ℤ) - k) ≤ q / (base ^ k : ℕ) ∧
      (q / (base ^ k : ℕ) : ℚ) < base ^ ((t : ℤ) - k + 1) := by
  have hbase' : (base : ℚ) ≠ 0 := by exact_mod_cast hbase.ne'
  have hlo' : (base : ℚ) ^ t ≤ q := by exact_mod_cast hlo
  have hhi' : (q : ℚ) < base ^ (t + 1) := by exact_mod_cast hhi
  rw [sub_add_eq_add_sub, zpow_sub₀ hbase', zpow_sub₀ hbase', ← Nat.cast_succ, zpow_natCast,
    zpow_natCast, zpow_natCast, Nat.cast_pow]
  exact ⟨by gcongr, by gcongr⟩

end Sys2Proof.Proofs
end

section
/-! # Rounding to nearest, ties to even (spec/41_conversion.md R173)

`roundHalfEven_bounds` is the rounding in natural numbers, `roundsTo_roundHalfEven` the same of the
rational quotient. What is rounded is determined where it is an integer (`eq_of_roundsTo_natCast`),
and a rounding does not cross an integer (`le_natCast_of_roundsTo`, `natCast_le_of_roundsTo`). -/

namespace Sys2Proof.Proofs

open Sys2Proof Sys2Proof.Machine Sys2Proof.Claims

/-! ### The rounded quotient -/

/-- Every way a quotient is rounded: down, up, or to the even neighbour of a tie. -/
theorem roundHalfEven_cases (n d : Nat) :
    (2 * (n % d) < d ∧ roundHalfEven n d = n / d) ∨
    (d < 2 * (n % d) ∧ roundHalfEven n d = n / d + 1) ∨
    (2 * (n % d) = d ∧ roundHalfEven n d = n / d + n / d % 2) := by
  rw [roundHalfEven]
  split_ifs with hdown hup
  · exact .inl ⟨hdown, rfl⟩
  · exact .inr (.inl ⟨hup, rfl⟩)
  · exact .inr (.inr ⟨by omega, rfl⟩)

/-- The rounded quotient is within one half of the exact one, and even where it is exactly one half
away. -/
theorem roundHalfEven_bounds {n d : Nat} (hd : 0 < d) :
    2 * n ≤ (2 * roundHalfEven n d + 1) * d ∧ 2 * roundHalfEven n d * d ≤ 2 * n + d ∧
    (2 * n = (2 * roundHalfEven n d + 1) * d ∨ 2 * n + d = 2 * roundHalfEven n d * d →
      roundHalfEven n d % 2 = 0) := by
  have hn : n = n / d * d + n % d := (Nat.div_add_mod' n d).symm
  have hlt : n % d < d := n.mod_lt hd
  obtain ⟨hr, h⟩ | ⟨hr, h⟩ | ⟨hr, h⟩ := roundHalfEven_cases n d
  · rw [h, add_mul, mul_assoc, one_mul]
    exact ⟨by omega, by omega, by omega⟩
  · rw [h, add_mul, mul_assoc, one_mul, add_mul, one_mul]
    exact ⟨by omega, by omega, by omega⟩
  · rw [h, add_mul, mul_assoc, one_mul, add_mul]
    obtain heven | hodd := Nat.mod_two_eq_zero_or_one (n / d)
    · rw [heven, zero_mul]
      exact ⟨by omega, by omega, by omega⟩
    · rw [hodd, one_mul]
      exact ⟨by omega, by omega, by omega⟩

theorem roundsTo_roundHalfEven (n : Nat) {d : Nat} (hd : 0 < d) :
    RoundsTo (n / d) (roundHalfEven n d) := by
  obtain ⟨hhi, hlo, htie⟩ := roundHalfEven_bounds (n := n) hd
  generalize roundHalfEven n d = m at hhi hlo htie
  have hd' : (0 : ℚ) < d := by exact_mod_cast hd
  have hhi' : 2 * (n / d : ℚ) ≤ 2 * m + 1 := by
    rw [← mul_div_assoc, div_le_iff₀ hd']
    exact_mod_cast hhi
  have hlo' : 2 * (m : ℚ) ≤ 2 * (n / d) + 1 := by
    rw [← mul_div_assoc, div_add_one hd'.ne', le_div_iff₀ hd']
    exact_mod_cast hlo
  have hdist : |(m : ℚ) - n / d| ≤ 1 / 2 := abs_le.mpr ⟨by linarith, by linarith⟩
  refine ⟨by linarith, fun h => htie ?_⟩
  obtain habove | hbelow := eq_or_eq_neg_of_abs_eq (show |(m : ℚ) - n / d| = 1 / 2 by linarith)
  · have hmul : 2 * (n : ℚ) + d = 2 * m * d := by
      rw [← div_mul_cancel₀ (n : ℚ) hd'.ne']
      linear_combination (-2 * d : ℚ) * habove
    exact .inr (by exact_mod_cast hmul)
  · have hmul : 2 * (n : ℚ) = (2 * m + 1) * d := by
      rw [← div_mul_cancel₀ (n : ℚ) hd'.ne']
      linear_combination (-2 * d : ℚ) * hbelow
    exact .inl (by exact_mod_cast hmul)

/-! ### What a rounding can be -/

theorem abs_sub_le_of_roundsTo {x : ℚ} {m : ℕ} (h : RoundsTo x m) : |(m : ℚ) - x| ≤ 1 / 2 := by
  linarith [h.1]

theorem natCast_le_of_roundsTo {x : ℚ} {m lo : ℕ} (h : RoundsTo x m) (hlo : lo ≤ x) : lo ≤ m := by
  have hm := (abs_le.mp (abs_sub_le_of_roundsTo h)).1
  have hlt : (lo : ℚ) < m + 1 := by linarith
  exact Nat.lt_succ_iff.mp (by exact_mod_cast hlt)

theorem le_natCast_of_roundsTo {x : ℚ} {m hi : ℕ} (h : RoundsTo x m) (hhi : x ≤ hi) : m ≤ hi := by
  have hm := (abs_le.mp (abs_sub_le_of_roundsTo h)).2
  have hlt : (m : ℚ) < hi + 1 := by linarith
  exact Nat.lt_succ_iff.mp (by exact_mod_cast hlt)

/-- An integer is rounded to itself. -/
theorem eq_of_roundsTo_natCast {x : ℚ} {m k : ℕ} (h : RoundsTo x m) (hx : x = k) : m = k :=
  le_antisymm (le_natCast_of_roundsTo h hx.le) (natCast_le_of_roundsTo h hx.ge)

/-! ### Rounding at a power of the base -/

theorem roundsTo_scaledRound {base num den : Nat} (k : ℤ) (hbase : 0 < base) (hden : 0 < den) :
    RoundsTo (num / den * base ^ k) (scaledRound base num den k) := by
  rw [scaledRound]
  split_ifs with hk
  · have hround := roundsTo_roundHalfEven (num * base ^ k.toNat) hden
    rwa [Nat.cast_mul, Nat.cast_pow, ← zpow_natCast, Int.toNat_of_nonneg hk, mul_div_right_comm]
      at hround
  · have hround := roundsTo_roundHalfEven num (Nat.mul_pos hden (pow_pos hbase (-k).toNat))
    rwa [Nat.cast_mul, Nat.cast_pow, ← zpow_natCast, Int.toNat_of_nonneg (by omega), zpow_neg,
      ← div_div, div_inv_eq_mul] at hround

section
variable {base num den : ℕ} (p : ℕ) (e : ℤ)

/-- `p + 1` digits of a quotient with the exponent `e`. -/
theorem roundsTo_scaledRound_sub (hbase : 0 < base) (hden : 0 < den) :
    RoundsTo (num / den / base ^ (e - p)) (scaledRound base num den (p - e)) := by
  rw [div_eq_mul_inv, ← zpow_neg, neg_sub]
  exact roundsTo_scaledRound _ hbase hden

theorem pow_le_scaledRound (hbase : 0 < base) (hden : 0 < den) (hle : (base : ℚ) ^ e ≤ num / den) :
    base ^ p ≤ scaledRound base num den (p - e) := by
  have hbase' : (0 : ℚ) < base := by exact_mod_cast hbase
  refine natCast_le_of_roundsTo (roundsTo_scaledRound_sub p e hbase hden) ?_
  rw [le_div_iff₀ (zpow_pos hbase' _), Nat.cast_pow, ← zpow_natCast, ← zpow_add₀ hbase'.ne',
    add_sub_cancel]
  exact hle

theorem scaledRound_le_pow (hbase : 0 < base) (hden : 0 < den)
    (hlt : (num / den : ℚ) < base ^ (e + 1)) :
    scaledRound base num den (p - e) ≤ base ^ (p + 1) := by
  have hbase' : (0 : ℚ) < base := by exact_mod_cast hbase
  have hexp : ((p + 1 : ℕ) : ℤ) + (e - p) = e + 1 := by omega
  refine le_natCast_of_roundsTo (roundsTo_scaledRound_sub p e hbase hden) ?_
  rw [div_le_iff₀ (zpow_pos hbase' _), Nat.cast_pow, ← zpow_natCast, ← zpow_add₀ hbase'.ne', hexp]
  exact hlt.le

end

end Sys2Proof.Proofs
end

section
/-! # Rendering a value (spec/41_conversion.md R173)

The digits after the point are `fixedDigits` without the zeros at their end; what they spell does not
change (`pointedValue_stripZeros`). `significand_spec` gives the exponent and the six digits of a
quotient, `exists_spelling` the string of such digits, and `renderMagnitude_of_decimal` the string of
a quotient of at most six digits that is itself a decimal fraction. -/

namespace Sys2Proof.Proofs

open Sys2Proof Sys2Proof.Machine Sys2Proof.Claims

/-! ### The last digits of a number -/

@[simp] theorem fixedDigits_length (k n : Nat) : (fixedDigits k n).length = k := by
  induction k generalizing n with
  | zero => rfl
  | succ k ih => rw [fixedDigits, List.length_append, ih, List.length_singleton]

theorem isDigit_of_mem_fixedDigits (k n : Nat) : ∀ c ∈ fixedDigits k n, IsDigit c := by
  induction k generalizing n with
  | zero => exact List.forall_mem_nil _
  | succ k ih =>
    exact List.forall_mem_append.mpr
      ⟨ih (n / 10), List.forall_mem_singleton.mpr (isDigit_digit (n.mod_lt (by decide)))⟩

@[simp] theorem decimalValue_fixedDigits (k n : Nat) : decimalValue (fixedDigits k n) = n % 10 ^ k := by
  induction k generalizing n with
  | zero => rw [pow_zero, Nat.mod_one]; rfl
  | succ k ih =>
    rw [fixedDigits, decimalValue_append_digit _ (n.mod_lt (by decide)), ih, pow_succ', Nat.mod_mul,
      Nat.add_comm]

theorem fixedDigits_mul_ten (k n : Nat) :
    fixedDigits (k + 1) (n * 10) = fixedDigits k n ++ [digit 0] := by
  rw [fixedDigits, Nat.mul_div_cancel _ (by decide), Nat.mul_mod_left]

/-! ### Without the zeros at the end -/

@[simp] theorem stripZeros_append_zero (t : Str) : stripZeros (t ++ [digit 0]) = stripZeros t :=
  List.rdropWhile_concat_pos _ _ _ (beq_self_eq_true _)

theorem stripZeros_append_of_ne (t : Str) {c : Byte} (hc : c ≠ digit 0) :
    stripZeros (t ++ [c]) = t ++ [c] :=
  List.rdropWhile_concat_neg _ _ _ (by simpa using hc)

theorem mem_of_mem_stripZeros {t : Str} {c : Byte} (h : c ∈ stripZeros t) : c ∈ t :=
  List.mem_reverse.mp ((List.dropWhile_sublist _).subset (List.mem_reverse.mp h))

theorem getLast?_stripZeros (t : Str) : (stripZeros t).getLast? ≠ some (digit 0) := by
  induction t using List.reverseRecOn with
  | nil => exact nofun
  | append_singleton t c ih =>
    by_cases hc : c = digit 0
    · rwa [hc, stripZeros_append_zero]
    · rw [stripZeros_append_of_ne t hc, List.getLast?_concat]
      exact mt Option.some_inj.mp hc

theorem pointedValue_append_zero (whole : ℕ) (t : Str) :
    pointedValue whole (t ++ [digit 0]) = pointedValue whole t := by
  rw [pointedValue, pointedValue, decimalValue_append_digit t (by decide), List.length_append,
    List.length_singleton, add_zero, Nat.cast_mul, Nat.cast_ofNat, pow_succ',
    mul_div_mul_left _ _ (by norm_num)]

theorem pointedValue_stripZeros (whole : ℕ) (t : Str) :
    pointedValue whole (stripZeros t) = pointedValue whole t := by
  induction t using List.reverseRecOn with
  | nil => rfl
  | append_singleton t c ih =>
    by_cases hc : c = digit 0
    · rw [hc, stripZeros_append_zero, pointedValue_append_zero, ih]
    · rw [stripZeros_append_of_ne t hc]

/-! ### A number with digits after its point -/

theorem withFraction_dec (whole : Nat) (t : Str) :
    withFraction (dec whole) t = pointed whole (stripZeros t) := by
  rw [withFraction, pointed]
  cases stripZeros t with
  | nil => rw [if_pos rfl, List.append_nil]
  | cons c t =>
    rw [if_neg (List.cons_ne_nil c t)]
    exact List.append_assoc _ _ _

/-- A number and its last `k` digits after the point spell a `10 ^ k`-th of it. -/
theorem pointedValue_fixedDigits (m k : Nat) :
    pointedValue (m / 10 ^ k) (fixedDigits k m) = m / 10 ^ k := by
  rw [pointedValue, decimalValue_fixedDigits, fixedDigits_length, eq_div_iff (by positivity), add_mul,
    div_mul_cancel₀ _ (by positivity)]
  exact_mod_cast Nat.div_add_mod' m (10 ^ k)

theorem fixedForm_eq_pointed (m k : Nat) :
    fixedForm m k = pointed (m / 10 ^ k) (stripZeros (fixedDigits k m)) := withFraction_dec _ _

theorem expForm_eq_pointed {m : Nat} (e : ℤ) (hm : m < 1000000) :
    expForm m e = pointed (m / 10 ^ 5) (stripZeros (fixedDigits 5 m)) ++ exponentText e := by
  rw [expForm, ← dec_of_lt (by omega : m / 100000 < 10), withFraction_dec, exponentText,
    List.append_assoc, List.append_assoc, List.append_assoc]
  rfl

theorem fixedForm_mul_ten (m k : Nat) : fixedForm (m * 10) (k + 1) = fixedForm m k := by
  rw [fixedForm_eq_pointed, fixedForm_eq_pointed, fixedDigits_mul_ten, stripZeros_append_zero, pow_succ,
    Nat.mul_div_mul_right _ _ (by decide)]

/-- Zeros at the end of the fraction are not written. -/
theorem fixedForm_mul_pow (m k i : Nat) : fixedForm (m * 10 ^ i) (k + i) = fixedForm m k := by
  induction i with
  | zero => rw [pow_zero, mul_one, add_zero]
  | succ i ih => rw [pow_succ, ← mul_assoc, ← add_assoc, fixedForm_mul_ten, ih]

theorem fixedForm_zero (m : Nat) : fixedForm m 0 = dec m := by
  rw [fixedForm, pow_zero, Nat.div_one]
  rfl

theorem fixedForm_one (m : Nat) :
    fixedForm m 1 = dec (m / 10) ++ if m % 10 = 0 then [] else ascii "." ++ dec (m % 10) := by
  have hlt : m % 10 < 10 := m.mod_lt (by decide)
  have hdigits : fixedDigits 1 m = [] ++ [digit (m % 10)] := rfl
  rw [fixedForm_eq_pointed, pow_one, hdigits, pointed]
  by_cases hzero : m % 10 = 0
  · rw [if_pos hzero, hzero, stripZeros_append_zero]
    rfl
  · have hne : digit (m % 10) ≠ digit 0 := mt (digit_eq_zero_iff hlt).mp hzero
    rw [if_neg hzero, stripZeros_append_of_ne [] hne, List.nil_append, dec_of_lt hlt,
      if_neg (List.cons_ne_nil _ _)]

/-! ### The six digits and the exponent -/

/-- R173: the exponent is that of the quotient, the digits are the quotient at that exponent rounded, and
`1000000` carries into the exponent. -/
theorem significand_spec {num den : Nat} (hnum : 0 < num) (hden : 0 < den) :
    ∃ (e₀ : ℤ) (m₀ : ℕ), (10 : ℚ) ^ e₀ ≤ num / den ∧ (num / den : ℚ) < 10 ^ (e₀ + 1) ∧
      RoundsTo (num / den / 10 ^ (e₀ - 5)) m₀ ∧ m₀ ≤ 1000000 ∧
      significand num den = if m₀ = 1000000 then (100000, e₀ + 1) else (m₀, e₀) := by
  obtain ⟨hlo, hhi⟩ := floorLog_bracket (base := 10) (by decide) hnum hden
  have hround := roundsTo_scaledRound_sub (num := num) (base := 10) 5 (floorLog 10 num den)
    (by decide) hden
  exact ⟨_, _, hlo, hhi, hround, scaledRound_le_pow 5 _ (by decide) hden hhi, rfl⟩

/-- R173: the digits and the exponent of a quotient are spelled as they are, in the form that the
exponent chooses, without a zero at the end of the fraction. -/
theorem exists_spelling {num den m : Nat} {e : ℤ} (hsig : significand num den = (m, e))
    (hm : m < 1000000) :
    ∃ (whole : ℕ) (frac : Str), (∀ c ∈ frac, IsDigit c) ∧ frac.getLast? ≠ some 0x30 ∧
      (-4 ≤ e ∧ e ≤ 5 → pointedValue whole frac = m * 10 ^ (e - 5) ∧
        renderMagnitude num den = pointed whole frac) ∧
      (e < -4 ∨ 5 < e → pointedValue whole frac = m / 10 ^ 5 ∧
        renderMagnitude num den = pointed whole frac ++ exponentText e) := by
  have hdigits (k : Nat) : ∀ c ∈ stripZeros (fixedDigits k m), IsDigit c :=
    fun c hc => isDigit_of_mem_fixedDigits k m c (mem_of_mem_stripZeros hc)
  have hvalue (k : Nat) :
      pointedValue (m / 10 ^ k) (stripZeros (fixedDigits k m)) = m / 10 ^ k := by
    rw [pointedValue_stripZeros, pointedValue_fixedDigits]
  by_cases hfixed : -4 ≤ e ∧ e ≤ 5
  · have hpow : (10 : ℚ) ^ (e - 5) = (10 ^ (5 - e).toNat)⁻¹ := by
      rw [← zpow_natCast, Int.toNat_of_nonneg (by omega), ← zpow_neg, neg_sub]
    refine ⟨m / 10 ^ (5 - e).toNat, _, hdigits (5 - e).toNat, getLast?_stripZeros _,
      fun _ => ⟨?_, ?_⟩, fun h => by omega⟩
    · rw [hvalue, hpow, div_eq_mul_inv]
    · rw [renderMagnitude, hsig, if_pos hfixed, fixedForm_eq_pointed]
  · refine ⟨_, _, hdigits 5, getLast?_stripZeros _, fun h => absurd h hfixed, fun _ => ⟨hvalue 5, ?_⟩⟩
    rw [renderMagnitude, hsig, if_neg hfixed, expForm_eq_pointed e hm]

/-! ### The sign and the magnitude -/

theorem render_of_ne_zero {v : Exact} (h : v.num ≠ 0) :
    render v = signOf v ++ renderMagnitude v.num.natAbs v.den := by
  rw [render, if_neg h, signText, signOf]
  simp only [decide_eq_true_eq]

theorem abs_value (v : Exact) : |value v| = (v.num.natAbs : ℚ) / v.den := by
  rw [value, abs_div, Nat.abs_cast, Nat.cast_natAbs, Int.cast_abs]

/-- Settles O60: `significand_spec` gives the digits and the exponent, `exists_spelling` their string. -/
theorem renderOfEveryValue : Obligations.RenderOfEveryValue := by
  refine ⟨fun _ => rfl, fun v hden hne => ?_⟩
  obtain ⟨e₀, m₀, hlo, hhi, hround, hle, hsig⟩ := significand_spec (Int.natAbs_pos.mpr hne) hden
  rw [abs_value, render_of_ne_zero hne]
  obtain ⟨m, e, hcarry, hm⟩ : ∃ (m : ℕ) (e : ℤ),
      (if m₀ = 1000000 then (100000, e₀ + 1) else (m₀, e₀)) = (m, e) ∧ m < 1000000 := by
    split_ifs with h
    · exact ⟨_, _, rfl, by decide⟩
    · exact ⟨_, _, rfl, by omega⟩
  obtain ⟨whole, frac, hdigits, hlast, hfixed, hexp⟩ := exists_spelling (hsig.trans hcarry) hm
  refine ⟨e₀, m₀, hlo, hhi, hround, e, m, ?_, whole, frac, hdigits, hlast, fun h => ?_, fun h => ?_⟩
  · split_ifs at hcarry ⊢ <;> cases hcarry <;> rfl
  · obtain ⟨hvalue, hrender⟩ := hfixed h
    exact ⟨hvalue, by rw [hrender]⟩
  · obtain ⟨hvalue, hrender⟩ := hexp h
    exact ⟨hvalue, by rw [hrender, List.append_assoc]⟩

/-! ### Decimal fractions of at most six digits -/

theorem floorLog_of_decimal {q t k : Nat} (hlo : 10 ^ t ≤ q) (hhi : q < 10 ^ (t + 1)) :
    floorLog 10 q (10 ^ k) = (t : ℤ) - k := by
  have hq : 0 < q := (pow_pos (by decide) t).trans_le hlo
  obtain ⟨hlo', hhi'⟩ := div_pow_bracket k (by decide) hlo hhi
  exact floorLog_eq (by decide) hq (pow_pos (by decide) k) hlo' hhi'

theorem scaledRound_of_decimal (q k i : Nat) :
    scaledRound 10 q (10 ^ k) (i + k : Nat) = q * 10 ^ i := by
  refine eq_of_roundsTo_natCast (roundsTo_scaledRound _ (by decide) (pow_pos (by decide) k)) ?_
  rw [zpow_natCast, pow_add]
  push_cast
  field_simp

/-- A number of at most six digits, over a power of ten, is spelled with exactly its own digits. -/
theorem renderMagnitude_of_decimal {q k : Nat} (hq : 0 < q) (hlt : q < 10 ^ 6) (hk : k ≤ 4) :
    renderMagnitude q (10 ^ k) = fixedForm q k := by
  have hlo : 10 ^ Nat.log 10 q ≤ q := Nat.pow_log_le_self 10 hq.ne'
  have hhi : q < 10 ^ (Nat.log 10 q + 1) := Nat.lt_pow_succ_log_self (by decide) q
  obtain ⟨i, hi⟩ : ∃ i, 5 = Nat.log 10 q + i :=
    Nat.exists_eq_add_of_le (Nat.le_of_lt_succ (Nat.log_lt_of_lt_pow hq.ne' hlt))
  generalize Nat.log 10 q = t at hlo hhi hi
  have hlog : floorLog 10 q (10 ^ k) = (t : ℤ) - k := floorLog_of_decimal hlo hhi
  have hshift : 5 - ((t : ℤ) - k) = (i + k : Nat) := by omega
  have hdigits : q * 10 ^ i < 1000000 :=
    calc q * 10 ^ i < 10 ^ (t + 1) * 10 ^ i := Nat.mul_lt_mul_of_pos_right hhi (pow_pos (by decide) i)
      _ = 1000000 := by rw [← pow_add, Nat.add_right_comm, ← hi]; rfl
  have hsig : significand q (10 ^ k) = (q * 10 ^ i, (t : ℤ) - k) := by
    rw [significand, hlog, hshift, scaledRound_of_decimal, if_neg hdigits.ne]
  rw [renderMagnitude, hsig, if_pos (by omega), hshift, Int.toNat_natCast, Nat.add_comm,
    fixedForm_mul_pow]

/-- Settles O46: an integer is a decimal fraction with no digit after the point. -/
theorem renderOfInteger : Obligations.RenderOfInteger := by
  intro n hn
  obtain rfl | hne := eq_or_ne n 0
  · rfl
  · rw [render_of_ne_zero hne, ← fixedForm_zero]
    rw [← renderMagnitude_of_decimal (Int.natAbs_pos.mpr hne) hn (Nat.zero_le 4)]
    rfl

/-- Settles O47: a tenth is a decimal fraction with one digit after the point. -/
theorem renderOfTenths : Obligations.RenderOfTenths := by
  intro n hn
  obtain rfl | hne := eq_or_ne n 0
  · rfl
  · rw [render_of_ne_zero hne, List.append_assoc, ← fixedForm_one]
    rw [← renderMagnitude_of_decimal (Int.natAbs_pos.mpr hne) (by omega) (by decide)]
    rfl

end Sys2Proof.Proofs
end

section
/-! # The codes that render the first byte (spec/41_conversion.md R192, R193, R197, R206) -/

namespace Sys2Proof.Proofs

open Sys2Proof Sys2Proof.Machine Sys2Proof.Claims

theorem convert200_eq (s : Slice) :
    convert200 s = if firstByte s = 0 then ascii "OFF" else ascii "ON" := by
  simp only [convert200, byte0_eq_iff]
  rfl

/-- R197: the number of a byte has at most three digits, so `render` writes them all. -/
theorem convert211_eq (s : Slice) :
    convert211 s = if firstByte s = 0 then ascii "OFF" else dec (firstByte s) := by
  have hlt := firstByte_lt s
  have hrender : render (.ofInt (firstByte s)) = dec (firstByte s) := by
    rw [Exact.ofInt, renderOfInteger _ (by omega), if_neg (by omega)]
    rfl
  simp only [convert211, byte0_eq_iff, byte0_toNat, hrender]
  rfl

/-- Settles O36: the names of code 203 are tried in the order of the byte. -/
theorem symbolicByteCodes : Obligations.SymbolicByteCodes := by
  refine fun s => ⟨answers_of_convResult rfl (convert200_eq _), answers_of_convResult rfl ?_,
    answers_of_convResult rfl (convert211_eq _)⟩
  simp only [convert203, byte0_eq_iff]
  generalize firstByte s.convIn = b
  match b with
  | 0 | 1 | 2 | 3 => rfl
  | b + 4 => rfl

/-- R206: the sign bit of code 312 is bit 7. -/
theorem signText_signBit (s : Slice) :
    signText ((byte0 s).getLsbD 7) = if 128 ≤ firstByte s then ascii "-" else [] := by
  have hlt := firstByte_lt s
  have hsign : firstByte s / 2 ^ 7 % 2 = 1 ↔ 128 ≤ firstByte s := by omega
  simp only [signText, byte0_getLsbD, hsign, decide_eq_true_eq]

/-- R206: the first field of code 312 is bits 6 to 4. -/
theorem extractLsb'_byte0_four (s : Slice) :
    ((byte0 s).extractLsb' 4 3).toNat = firstByte s / 16 % 8 := by
  rw [BitVec.extractLsb'_toNat, byte0_toNat, Nat.shiftRight_eq_div_pow]

theorem convert312_of_sum {p : Config.Params} (s : Slice) (h : p.f312Form = .sum) :
    convert312 p s = (if 128 ≤ firstByte s then ascii "-" else []) ++
      render ⟨((firstByte s / 16 % 8 : ℕ) : ℤ) + (firstByte s % 16 : ℕ), 16⟩ := by
  simp only [convert312, renderSm, signText_signBit, extractLsb'_byte0_four, lowNibble_toNat, h]

theorem convert312_of_intFrac {p : Config.Params} (s : Slice) (h : p.f312Form = .intFrac) :
    convert312 p s = (if 128 ≤ firstByte s then ascii "-" else []) ++
      render ⟨16 * ((firstByte s / 16 % 8 : ℕ) : ℤ) + (firstByte s % 16 : ℕ), 16⟩ := by
  simp only [convert312, renderSm, signText_signBit, extractLsb'_byte0_four, lowNibble_toNat, h]

/-- Settles O39, from `convert312` under each form; the byte 0x80 is the sign before a zero. -/
theorem signMagnitudeCode : Obligations.SignMagnitudeCode := by
  refine fun s => ⟨fun hform => ?_, fun hform => ?_, fun hb => ?_⟩
  · exact answers_of_convResult rfl (convert312_of_sum _ hform)
  · exact answers_of_convResult rfl (convert312_of_intFrac _ hform)
  · refine answers_of_convResult rfl ?_
    cases hform : s.params.f312Form with
    | sum => rw [convert312_of_sum _ hform, hb]; rfl
    | intFrac => rw [convert312_of_intFrac _ hform, hb]; rfl

end Sys2Proof.Proofs
end

section
/-! # Binary64 (spec/93_implementation_defined.md G5)

`binary64Value_of_normal` reads a normal bit pattern back as its value; `fl_of_bracket` gives the value
of `fl`: the exact one, rounded to 53 significant bits. -/

namespace Sys2Proof.Proofs

open Sys2Proof Sys2Proof.Machine Sys2Proof.Claims

/-! ### Reading a bit pattern -/

/-- The sign, the exponent and the fraction of a bit pattern. -/
theorem binary64_fields (neg : Bool) (mag : BitVec 63) :
    (BitVec.ofBool neg ++ mag : Binary64).getLsbD 63 = neg ∧
    ((BitVec.ofBool neg ++ mag : Binary64).extractLsb' 52 11).toNat = mag.toNat / 2 ^ 52 ∧
    ((BitVec.ofBool neg ++ mag : Binary64).extractLsb' 0 52).toNat = mag.toNat % 2 ^ 52 := by
  have hlt := mag.isLt
  have htoNat : (BitVec.ofBool neg ++ mag : Binary64).toNat = neg.toNat * 2 ^ 63 + mag.toNat := by
    rw [toNat_append_eq_mul_add, BitVec.toNat_ofBool]
  refine ⟨?_, ?_, ?_⟩
  · rw [BitVec.getLsbD_append]
    cases neg <;> rfl
  · rw [BitVec.extractLsb'_toNat, htoNat, Nat.shiftRight_eq_div_pow]
    omega
  · rw [BitVec.extractLsb'_toNat, htoNat, Nat.shiftRight_zero]
    omega

theorem value_mul_two_pow (n : ℤ) {e : ℤ} (he : 0 ≤ e) : value ⟨n * 2 ^ e.toNat, 1⟩ = n * 2 ^ e := by
  rw [value, Nat.cast_one, div_one, Int.cast_mul, Int.cast_pow, Int.cast_ofNat, ← zpow_natCast,
    Int.toNat_of_nonneg he]

theorem value_div_two_pow (n : ℤ) {e : ℤ} (he : e ≤ 0) : value ⟨n, 2 ^ (-e).toNat⟩ = n * 2 ^ e := by
  rw [value, Nat.cast_pow, Nat.cast_ofNat, ← zpow_natCast, Int.toNat_of_nonneg (by omega), zpow_neg,
    div_inv_eq_mul]

/-- A normal bit pattern is finite, with the hidden bit before its fraction. -/
theorem binary64Value_of_normal (neg : Bool) {mag : BitVec 63} {k f : Nat}
    (hmag : mag.toNat = k * 2 ^ 52 + f) (hf : f < 2 ^ 52) (hk : 0 < k) (hk' : k < 2047) :
    ∃ w, binary64Value (BitVec.ofBool neg ++ mag) = some w ∧
      value w = (if neg then -1 else 1) * (2 ^ 52 + f : ℕ) * 2 ^ ((k : ℤ) - 1075) := by
  obtain ⟨hneg, hexp, hfrac⟩ := binary64_fields neg mag
  have hexp' : mag.toNat / 2 ^ 52 = k := by omega
  have hfrac' : mag.toNat % 2 ^ 52 = f := by omega
  have hmax : (max k 1 : ℕ) = k := by omega
  simp only [binary64Value, hneg, hexp, hfrac, hexp', hfrac', hmax, hk.ne', hk'.ne, if_false]
  have hsigned : ((if neg then -((2 ^ 52 + f : ℕ) : ℤ) else (2 ^ 52 + f : ℕ) : ℤ) : ℚ) =
      (if neg then -1 else 1) * (2 ^ 52 + f : ℕ) := by
    cases neg <;> simp
  by_cases he : 0 ≤ (k : ℤ) - 1075
  · rw [if_pos he]
    exact ⟨_, rfl, by rw [value_mul_two_pow _ he, hsigned]⟩
  · rw [if_neg he]
    exact ⟨_, rfl, by rw [value_div_two_pow _ (not_le.mp he).le, hsigned]⟩

/-- A value that is read back has a positive denominator. -/
theorem den_pos_of_binary64Value {x : Binary64} {w : Exact} (h : binary64Value x = some w) :
    0 < w.den := by
  unfold binary64Value at h
  extract_lets biased fraction m e signed at h
  split_ifs at h
  · cases h
    exact Nat.one_pos
  · cases h
    exact pow_pos (by decide) _

/-! ### The nearest binary64 value -/

/-- The bit pattern of a value in a normal binade: its exponent, and its significand above it. -/
theorem flMagnitude_of_bracket {num den : Nat} {e : ℤ} (hnum : num ≠ 0)
    (hlog : floorLog 2 num den = e) (hlo : -1022 ≤ e) (hhi : e < 1023)
    (hm : scaledRound 2 num den (52 - e) ≤ 2 ^ 53) :
    flMagnitude num den = (e + 1022).toNat * 2 ^ 52 + scaledRound 2 num den (52 - e) := by
  rw [flMagnitude, if_neg hnum, hlog, max_eq_left hlo]
  exact min_eq_left (by omega)

/-- A binary64 value whose significand may be the next power of two. -/
theorem binary64Value_of_significand (neg : Bool) {e : ℤ} {m : Nat} (hlo : -1022 ≤ e) (hhi : e < 1023)
    (hm : 2 ^ 52 ≤ m) (hm' : m ≤ 2 ^ 53) :
    ∃ w, binary64Value
        (BitVec.ofBool neg ++ BitVec.ofNat 63 ((e + 1022).toNat * 2 ^ 52 + m)) = some w ∧
      value w = (if neg then -1 else 1) * m * 2 ^ (e - 52) := by
  obtain ⟨n, hn⟩ := Int.eq_ofNat_of_zero_le (by omega : 0 ≤ e + 1022)
  have hmag : (BitVec.ofNat 63 ((e + 1022).toNat * 2 ^ 52 + m)).toNat = n * 2 ^ 52 + m := by
    rw [hn, BitVec.toNat_ofNat]
    omega
  rcases hm'.lt_or_eq with hlt | rfl
  · have hfields : (BitVec.ofNat 63 ((e + 1022).toNat * 2 ^ 52 + m)).toNat =
        (n + 1) * 2 ^ 52 + (m - 2 ^ 52) := hmag.trans (by omega)
    have hexp : ((n + 1 : ℕ) : ℤ) - 1075 = e - 52 := by omega
    have hsig : 2 ^ 52 + (m - 2 ^ 52) = m := by omega
    obtain ⟨w, hw, hvalue⟩ := binary64Value_of_normal neg hfields (by omega) (by omega) (by omega)
    exact ⟨w, hw, by rw [hvalue, hexp, hsig]⟩
  · have hfields : (BitVec.ofNat 63 ((e + 1022).toNat * 2 ^ 52 + 2 ^ 53)).toNat =
        (n + 2) * 2 ^ 52 + 0 := hmag.trans (by omega)
    have hexp : ((n + 2 : ℕ) : ℤ) - 1075 = e - 52 + 1 := by omega
    have hsig : ((2 ^ 53 : ℕ) : ℚ) = (2 ^ 52 + 0 : ℕ) * 2 := by norm_num
    obtain ⟨w, hw, hvalue⟩ := binary64Value_of_normal neg hfields (by omega) (by omega) (by omega)
    exact ⟨w, hw, by rw [hvalue, hexp, hsig, zpow_add_one₀ (by norm_num)]; ring⟩

/-- G5: in the range of normal values, `fl` is the value rounded to 53 significant bits. -/
theorem fl_of_bracket {v : Exact} {e : ℤ} (hden : 0 < v.den) (hlo : -1022 ≤ e) (hhi : e < 1023)
    (hle : 2 ^ e ≤ |value v|) (hlt : |value v| < 2 ^ (e + 1)) :
    ∃ (w : Exact) (m : ℕ), binary64Value (fl v) = some w ∧ RoundsTo (|value v| / 2 ^ (e - 52)) m ∧
      value w = (if v.num < 0 then -1 else 1) * m * 2 ^ (e - 52) := by
  rw [abs_value] at hle hlt ⊢
  have hnum : 0 < v.num.natAbs := by
    refine Nat.pos_of_ne_zero fun h => ?_
    rw [h, Nat.cast_zero, zero_div] at hle
    exact hle.not_gt (zpow_pos (by norm_num) e)
  have hlog : floorLog 2 v.num.natAbs v.den = e := floorLog_eq (by decide) hnum hden hle hlt
  have hround := roundsTo_scaledRound_sub (num := v.num.natAbs) (base := 2) 52 e (by decide) hden
  have hm := pow_le_scaledRound (base := 2) 52 e (by decide) hden hle
  have hm' := scaledRound_le_pow (base := 2) 52 e (by decide) hden hlt
  obtain ⟨w, hw, hvalue⟩ := binary64Value_of_significand (decide (v.num < 0)) hlo hhi hm hm'
  refine ⟨w, _, ?_, hround, ?_⟩
  · rw [fl, flMagnitude_of_bracket hnum.ne' hlog hlo hhi hm']
    exact hw
  · rw [hvalue]
    simp only [decide_eq_true_eq]

/-- Settles O44, from the two roundings. -/
theorem roundingIsHalfEven : Obligations.RoundingIsHalfEven := by
  refine ⟨fun n d hd => ?_, fun v e => fl_of_bracket⟩
  obtain ⟨hhi, hlo, htie⟩ := roundHalfEven_bounds (n := n) hd
  refine ⟨hhi, ?_, htie⟩
  rw [Nat.sub_mul, one_mul]
  exact Nat.sub_le_of_le_add hlo

/-- Where the value is a multiple of the last place of its binade, `fl` is exact. -/
theorem fl_exact {v : Exact} {e : ℤ} {m : ℕ} (hden : 0 < v.den) (hlo : -1022 ≤ e) (hhi : e < 1023)
    (hle : 2 ^ e ≤ |value v|) (hlt : |value v| < 2 ^ (e + 1)) (hm : |value v| = m * 2 ^ (e - 52)) :
    ∃ w, binary64Value (fl v) = some w ∧ value w = value v := by
  obtain ⟨w, k, hw, hround, hvalue⟩ := fl_of_bracket hden hlo hhi hle hlt
  have hk : k = m := eq_of_roundsTo_natCast hround (by rw [hm, mul_div_cancel_right₀ _ (by positivity)])
  refine ⟨w, hw, ?_⟩
  rw [hvalue, hk, mul_assoc, ← hm]
  have hden' : (0 : ℚ) < v.den := by exact_mod_cast hden
  split_ifs with hneg
  · have hneg' : value v < 0 := div_neg_of_neg_of_pos (by exact_mod_cast hneg) hden'
    rw [abs_of_neg hneg', neg_one_mul, neg_neg]
  · have hpos : 0 ≤ value v := div_nonneg (by exact_mod_cast not_lt.mp hneg) hden'.le
    rw [abs_of_nonneg hpos, one_mul]

/-! ### The inputs of the curves -/

/-- An integer of at most 53 bits, over a small power of two, is a binary64 value. -/
theorem fl_exact_of_dyadic {n : ℤ} {j : ℕ} (hn : n ≠ 0) (hlt : n.natAbs < 2 ^ 53) (hj : j ≤ 8) :
    ∃ w, binary64Value (fl ⟨n, 2 ^ j⟩) = some w ∧ value w = value ⟨n, 2 ^ j⟩ := by
  have hpos : n.natAbs ≠ 0 := Int.natAbs_ne_zero.mpr hn
  obtain ⟨i, hi⟩ : ∃ i, 52 = Nat.log 2 n.natAbs + i :=
    Nat.exists_eq_add_of_le (Nat.le_of_lt_succ (Nat.log_lt_of_lt_pow hpos hlt))
  obtain ⟨hlo, hhi⟩ := div_pow_bracket j (by decide) (Nat.pow_log_le_self 2 hpos)
    (Nat.lt_pow_succ_log_self (by decide) n.natAbs)
  refine fl_exact (e := (Nat.log 2 n.natAbs : ℤ) - j) (m := n.natAbs * 2 ^ i)
    (pow_pos (by decide) j) (by omega) (by omega) (by rwa [abs_value]) (by rwa [abs_value]) ?_
  have hexp : (Nat.log 2 n.natAbs : ℤ) - j - 52 = -(i : ℤ) - j := by omega
  rw [abs_value, hexp, zpow_sub₀ (by norm_num), zpow_neg, zpow_natCast, zpow_natCast]
  push_cast
  field_simp

theorem fl_exact_of_zero (d : ℕ) : ∃ w, binary64Value (fl ⟨0, d⟩) = some w ∧ w.num = 0 := by
  have hmag : flMagnitude (0 : ℤ).natAbs d = 0 := if_pos rfl
  obtain ⟨hneg, hexp, hfrac⟩ := binary64_fields (decide ((0 : ℤ) < 0)) (BitVec.ofNat 63 0)
  rw [fl, hmag, binary64Value, hneg, hexp, hfrac]
  exact ⟨_, rfl, rfl⟩

theorem num_mul_den_of_value_eq {v w : Exact} (hv : 0 < v.den) (hw : 0 < w.den)
    (h : value w = value v) : w.num * v.den = v.num * w.den := by
  rw [value, value, div_eq_div_iff (by positivity) (by positivity)] at h
  exact_mod_cast h

/-- Settles O42: both divisors are powers of two. -/
theorem curveInputsAreExact : Obligations.CurveInputsAreExact := by
  intro n d hlt hd
  obtain ⟨j, rfl, hj⟩ : ∃ j, d = 2 ^ j ∧ j ≤ 8 := by
    obtain rfl | rfl := hd
    · exact ⟨0, rfl, by decide⟩
    · exact ⟨8, rfl, by decide⟩
  obtain rfl | hn := eq_or_ne n 0
  · obtain ⟨w, hw, hzero⟩ := fl_exact_of_zero (2 ^ j)
    exact ⟨w, hw, by rw [hzero, zero_mul, zero_mul]⟩
  · obtain ⟨w, hw, hvalue⟩ := fl_exact_of_dyadic hn hlt hj
    exact ⟨w, hw,
      num_mul_den_of_value_eq (pow_pos (by decide) j) (den_pos_of_binary64Value hw) hvalue⟩

/-- R213: a tenth has a nearest binary64 value, between `2 ^ (-4)` and `2 ^ (-3)`. -/
theorem exists_tenth : ∃ tenth, binary64Value flTenth = some tenth := by
  have htenth : |value ⟨1, 10⟩| = 1 / 10 := by norm_num [value]
  obtain ⟨w, m, hw, -, -⟩ := fl_of_bracket (v := ⟨1, 10⟩) (e := -4) (by decide) (by decide) (by decide)
    (by rw [htenth]; norm_num) (by rw [htenth]; norm_num)
  exact ⟨w, hw⟩

theorem flTimesTenth_eq {tenth : Exact} (h : binary64Value flTenth = some tenth) (raw : ℤ) :
    flTimesTenth raw = fl ⟨raw * tenth.num, tenth.den⟩ := by
  rw [flTimesTenth, h]

/-- R218: the string of a curve is `render` of its result, or the free string. -/
theorem curve_eq_curveText (code : BitVec 16) (s : Slice) (x : Binary64) :
    curve code s x = curveText code s x := rfl

/-- Settles O41, from the signed readings and the value of a tenth. -/
theorem curveCodes : Obligations.CurveCodes := by
  intro s
  obtain ⟨tenth, htenth⟩ := exists_tenth
  simp only [← curve_eq_curveText, ← s16_little, ← s16_big]
  refine ⟨rfl, rfl, rfl, rfl, tenth, htenth, ?_⟩
  rw [← flTimesTenth_eq htenth, ← flTimesTenth_eq htenth]
  exact ⟨rfl, rfl⟩

end Sys2Proof.Proofs
end

section
/-! # What STEP answers (spec/42_receive.md R241 to R249)

An equation of `execStep` for each case of R241: nothing to do, the deadline, and a consumed byte; then
an equation of `consumeByte` for each receive state. The statements about one STEP are read off them. -/

namespace Sys2Proof.Proofs

open Sys2Proof Sys2Proof.Machine Sys2Proof.Claims

/-! ### The deadline -/

theorem elapsed_toNat (s : State) : (elapsed s).toNat = elapsedMs s := by
  have hstart : s.tStart.toNat < 2 ^ 32 := s.tStart.isLt
  rw [elapsed, elapsedMs, BitVec.toNat_sub]
  congr 1
  omega

theorem expired_eq_false_iff {s : State} : expired s = false ↔ BeforeDeadline s := by
  rw [expired, BeforeDeadline, ← elapsed_toNat, BitVec.ule, decide_eq_false_iff_not, not_le]

theorem expired_eq_true_iff {s : State} : expired s = true ↔ ¬ BeforeDeadline s := by
  rw [← expired_eq_false_iff, Bool.not_eq_false]

/-! ### The cases of STEP -/

theorem exec_step_of_idle {s : State} (h : s.st = .idle) : exec .step s = .next s := if_pos h

theorem exec_step_of_deadline {s : State} (hst : s.st ≠ .idle) (h : ¬ BeforeDeadline s) :
    exec .step s = .next (finish .timedOut (setLen 0 s)) :=
  (if_neg hst).trans (if_pos (expired_eq_true_iff.mpr h))

/-- Before the deadline, an attempt looks at the receive queue. -/
theorem execStep_of_beforeDeadline {s : State} (hst : s.st ≠ .idle) (h : BeforeDeadline s) :
    execStep s = (rxPop? s).elim (.next s) fun head => consumeByte head.1 head.2 := by
  have hexpired : ¬ expired s = true := fun he => expired_eq_true_iff.mp he h
  rw [execStep, if_neg hst, if_neg hexpired]
  cases rxPop? s <;> rfl

theorem exec_step_of_empty {s : State} (hst : s.st ≠ .idle) (h : BeforeDeadline s)
    (hrxq : s.rxq = []) : exec .step s = .next s := by
  rw [exec, execStep_of_beforeDeadline hst h, rxPop?_eq_none.mpr hrxq, Option.elim_none]

theorem exec_step_of_byte {s : State} {b : Byte} {rest : List Byte} (hst : s.st ≠ .idle)
    (h : BeforeDeadline s) (hrxq : s.rxq = b :: rest) :
    exec .step s = consumeByte b (setRxq rest s) := by
  have hpop : rxPop? s = some (b, setRxq rest s) := by rw [rxPop?, hrxq]
  rw [exec, execStep_of_beforeDeadline hst h, hpop, Option.elim_some]

/-- Settles O14, from the two cases of R241 in which nothing is written. -/
theorem stepWithNothingToDo : Obligations.StepWithNothingToDo := by
  rintro s (hidle | ⟨hdeadline, hrxq⟩)
  · exact exec_step_of_idle hidle
  · by_cases hidle : s.st = .idle
    · exact exec_step_of_idle hidle
    · exact exec_step_of_empty hidle hdeadline hrxq

/-- Settles O15: with `len` 0 no byte is read. -/
theorem stepPastDeadlineTimesOut : Obligations.StepPastDeadlineTimesOut :=
  fun _ hst hdeadline => ⟨_, exec_step_of_deadline hst hdeadline, rfl,
    fun a => fbRead_eq_none_of_le (Nat.zero_le a)⟩

/-! ### A byte in `SYNC` -/

theorem consumeByte_of_sync {s : State} (b : Byte) (h : s.st = .sync) :
    consumeByte b s = .next (syncByte b s) := by simp only [consumeByte, h]

theorem syncByte_marker (s : State) :
    syncByte Config.marker s =
      setSt .hdr (setPrev15 false (setLen 1 (fbStore 0 Config.marker s))) := if_pos rfl

theorem syncByte_errorPair {s : State} (hp : s.params.pErrInSync = true) (hprev : s.prev15 = true) :
    syncByte Config.errorSecond s = finish .errorFrame (setPrev15 false
      (setLen 2 (fbStore 1 Config.errorSecond (fbStore 0 Config.errorFirst s)))) :=
  (if_neg (by decide)).trans (if_pos ⟨hp, hprev, rfl⟩)

theorem syncByte_discard {s : State} {b : Byte} (hb : b ≠ Config.marker)
    (h : ¬ (s.params.pErrInSync = true ∧ s.prev15 = true ∧ b = Config.errorSecond)) :
    syncByte b s = setPrev15 (b == Config.errorFirst) s := (if_neg hb).trans (if_neg h)

/-- Before the deadline, `SYNC` runs `sync_byte` on the head of the queue. -/
theorem exec_step_of_sync {s : State} {b : Byte} {rest : List Byte} (hst : s.st = .sync)
    (h : BeforeDeadline s) (hrxq : s.rxq = b :: rest) :
    exec .step s = .next (syncByte b (setRxq rest s)) := by
  rw [exec_step_of_byte (by simp [hst]) h hrxq, consumeByte_of_sync b (s := setRxq rest s) hst]

/-- Settles O16, from the marker and the discard of `sync_byte`; a byte above the marker is at or above
the new `len`. -/
theorem stepSynchronises : Obligations.StepSynchronises := by
  intro s b rest hst hdeadline hrxq
  constructor
  · rintro rfl
    refine ⟨_, exec_step_of_sync hst hdeadline hrxq, ?_⟩
    have hmarker : syncByte 0x40 (setRxq rest s) = _ := syncByte_marker (setRxq rest s)
    rw [hmarker]
    refine ⟨rfl, ?_, fun a ha => fbRead_eq_none_of_le (Nat.one_le_iff_ne_zero.mpr ha)⟩
    simp [fbRead, Memory.read_truncate, Config.marker]
  · intro hb hpair
    rw [exec_step_of_sync hst hdeadline hrxq, syncByte_discard (s := setRxq rest s) hb hpair]
    rfl

/-- Settles O17: the pair is stored at 0 and 1 and nothing is held above it; without the parameter or
the 0x15 the byte is discarded. -/
theorem stepErrorPairEndsAttempt : Obligations.StepErrorPairEndsAttempt := by
  intro s rest hst hdeadline hrxq
  rw [exec_step_of_sync hst hdeadline hrxq]
  constructor
  · intro hp hprev
    have hpair : syncByte 0xEA (setRxq rest s) = _ := syncByte_errorPair (s := setRxq rest s) hp hprev
    rw [hpair]
    refine ⟨_, rfl, rfl, ?_, ?_, fun a ha => fbRead_eq_none_of_le ha⟩
    · simp [fbRead, Memory.read_truncate, Memory.read_write_other, Config.errorFirst]
    · simp [fbRead, Memory.read_truncate, Config.errorSecond]
  · intro hnot
    rw [syncByte_discard (by decide) (by rintro ⟨hp, hprev, -⟩; simp_all)]
    rfl

/-! ### A byte appended -/

@[simp] theorem fbRead_appendByte_same (b : Byte) (s : State) :
    fbRead (appendByte b s) s.len = some b := by simp [fbRead]

/-- An append leaves every other byte of the frame as it was, and holds nothing above it. -/
theorem fbRead_appendByte_other (b : Byte) (s : State) {a : Nat} (h : a ≠ s.len) :
    fbRead (appendByte b s) a = fbRead s a := by
  obtain hlt | hgt := Nat.lt_or_gt_of_ne h
  · rw [fbRead_of_lt hlt, fbRead_of_lt (Nat.lt_succ_of_lt hlt), appendByte_fb,
      Memory.read_write_other _ _ (Ne.symm h)]
  · rw [fbRead_eq_none_of_le hgt.le, fbRead_eq_none_of_le (Nat.succ_le_of_lt hgt)]

theorem withAppended_of_lt {s : State} (b : Byte)
    (k : State → Host.Outcome State Fault Refusal) (h : s.len < Config.bufCap) :
    withAppended b s k = k (appendByte b s) := if_pos h

/-- With the marker held, the registry byte is appended and checked (R245). -/
theorem consumeByte_of_marker {s : State} (b : Byte) (hst : s.st = .hdr) (hlen : s.len = 1) :
    consumeByte b s = .next (registryCheck b (appendByte b s)) := by
  have hroom : s.len < Config.bufCap := by rw [hlen]; decide
  simp only [consumeByte, hst, withAppended_of_lt b _ hroom, appendByte_len, hlen, if_true]

/-- Past the registry check a byte is appended and the receive state is `PAY` for the checks of
`post_append` (R246, R247). -/
theorem consumeByte_of_pastRegistry {s : State} (b : Byte)
    (hst : (s.st = .hdr ∧ s.len = 2) ∨ s.st = .pay) (hroom : s.len < Config.bufCap) :
    consumeByte b s = postAppend (setSt .pay (appendByte b s)) := by
  obtain ⟨hst, hlen⟩ | hst := hst
  · simp [consumeByte, hst, withAppended_of_lt b _ hroom, hlen]
  · have hsame : setSt .pay (appendByte b s) = appendByte b s := by rw [← hst]; rfl
    simp only [consumeByte, hst, withAppended_of_lt b _ hroom, hsame]

theorem registryCheck_of_ne {r : Byte} {s : State} (h : r ≠ s.reqReg) :
    registryCheck r s = setSt .sync (setPrev15 (r == Config.errorFirst) (setLen 0 s)) := if_pos h

theorem registryCheck_of_eq {r : Byte} {s : State} (h : r = s.reqReg) : registryCheck r s = s :=
  if_neg (not_not.mpr h)

/-- Settles O18, from the two answers of `registry_check`. -/
theorem stepChecksRegistry : Obligations.StepChecksRegistry := by
  intro s b rest hst hlen hdeadline hrxq
  rw [exec_step_of_byte (by simp [hst]) hdeadline hrxq,
    consumeByte_of_marker (s := setRxq rest s) b hst hlen]
  refine ⟨_, rfl, fun hb => ?_, fun hb => ?_⟩
  · rw [registryCheck_of_ne (s := appendByte b (setRxq rest s)) hb]
    exact ⟨rfl, fun a => fbRead_eq_none_of_le (Nat.zero_le a)⟩
  · have hlen2 : 2 = s.len + 1 := by rw [hlen]
    rw [registryCheck_of_eq (s := appendByte b (setRxq rest s)) hb]
    refine ⟨by rw [hlen2]; rfl, ?_⟩
    rw [← hlen]
    exact ⟨fbRead_appendByte_same b (setRxq rest s),
      fun a ha => fbRead_appendByte_other b (setRxq rest s) ha⟩

end Sys2Proof.Proofs
end

section
/-! # The frame held and the shape of an attempt (spec/42_receive.md R250 to R253)

`AttemptShape` lists what the frame buffer can hold in each receive state and after each outcome. A
state meets the invariant iff it holds a frame of such a shape and the rest of its fields are in order
(`attemptShape_of_inv`, `inv_of_shape`), so what STEP does is settled one shape at a time. -/

namespace Sys2Proof.Proofs

open Sys2Proof Sys2Proof.Machine Sys2Proof.Claims

/-! ### The bytes held -/

/-- `FB` holds exactly the bytes `f`, those of the frame (R26, R36). -/
structure Holds (s : State) (f : List Byte) : Prop where
  memory : s.fb.map Prod.fst = List.range s.len
  frame : frame s = some f

theorem Holds.length {s : State} {f : List Byte} (h : Holds s f) : f.length = s.len :=
  (frame_eq_some.mp h.frame).1

theorem Holds.congr {s t : State} {f : List Byte} (h : Holds s f) (hlen : t.len = s.len)
    (hfb : t.fb = s.fb) : Holds t f :=
  ⟨by rw [hfb, hlen, h.memory], (frame_congr hlen hfb).trans h.frame⟩

theorem holds_nil {s : State} (hlen : s.len = 0) (hfb : s.fb = []) : Holds s [] :=
  ⟨by rw [hfb, hlen]; rfl, by rw [frame, hlen, fbRange]⟩

theorem Holds.fb_eq_nil {s : State} (h : Holds s []) : s.fb = [] := by
  have hlen : 0 = s.len := h.length
  simpa [← hlen] using h.memory

theorem holds_setLen_zero (s : State) : Holds (setLen 0 s) [] :=
  holds_nil rfl (Memory.truncate_zero s.fb)

theorem Holds.append {s : State} {f : List Byte} (b : Byte) (h : Holds s f) :
    Holds (appendByte b s) (f ++ [b]) := by
  refine ⟨?_, frame_append b h.frame⟩
  have habove : ∀ c ∈ s.fb, c.1 < s.len := fun c hc =>
    List.mem_range.mp (h.memory ▸ List.mem_map_of_mem hc)
  rw [appendByte_fb, appendByte_len, Memory.write_above b habove, List.map_append, h.memory,
    List.range_succ]
  rfl

theorem read_isSome_of_mem {m : Memory} {i : Nat} (h : i ∈ m.map Prod.fst) :
    (Memory.read m i).isSome := by
  induction m with
  | nil => simp at h
  | cons c m ih =>
    obtain ⟨a, b⟩ := c
    by_cases ha : a = i
    · simp [Memory.read, ha]
    · simpa [Memory.read, ha] using ih (by simpa [Ne.symm ha] using h)

theorem exists_holds_of_inv {s : State} (hs : Inv s) : ∃ f, Holds s f := by
  obtain ⟨f, hf⟩ := exists_frame (s := s) fun k hk => by
    rw [fbRead_of_lt hk]
    exact read_isSome_of_mem (hs.memory ▸ List.mem_range.mpr hk)
  exact ⟨f, hs.memory, hf⟩

/-! ### The shape of an attempt -/

/-- What the frame can be for a receive state and an outcome (R242 to R253): the parameters decide
whether an error pair can be held, and `reg` is the registry asked for. -/
inductive AttemptShape (p : Config.Params) (reg : Byte) (st : RxState) (res : Res)
    (f : List Byte) : Prop
  /-- Before the first attempt, and after one that timed out. -/
  | nothing (hst : st = .idle) (hres : res = .none ∨ res = .timedOut) (held : f = [])
  | sync (hst : st = .sync) (hres : res = .none) (held : f = [])
  | marker (hst : st = .hdr) (hres : res = .none) (held : f = [Config.marker])
  | header (hst : st = .hdr) (hres : res = .none) (held : f = [Config.marker, reg])
  | payload (hst : st = .pay) (hres : res = .none) (n : Byte) (tail : List Byte)
      (held : f = Config.marker :: reg :: n :: tail) (hlt : f.length < n.toNat + 2)
  | complete (hst : st = .idle) (n : Byte) (tail : List Byte)
      (held : f = Config.marker :: reg :: n :: tail) (hlen : f.length = max 3 (n.toNat + 2))
      (hres : (res = .ok ∧ validate f = true) ∨ (res = .badCksum ∧ validate f = false))
  | errorPair (hst : st = .idle) (hres : res = .errorFrame) (hp : p.pErrInSync = true)
      (held : f = [Config.errorFirst, Config.errorSecond])

theorem eq_cons_three {f : List Byte} {a b c : Byte} (h0 : f[0]? = some a) (h1 : f[1]? = some b)
    (h2 : f[2]? = some c) : ∃ tail, f = a :: b :: c :: tail := by
  match f with
  | [] | [_] | [_, _] => simp at h2
  | x :: y :: z :: tail => exact ⟨tail, by simp_all⟩

theorem attemptShape_of_inv {s : State} {f : List Byte} (hs : Inv s) (hf : Holds s f) :
    AttemptShape s.params s.reqReg s.st s.res f := by
  have hread := fbRead_of_frame hf.frame
  have hlen := hf.length
  cases hst : s.st with
  | sync =>
    exact .sync rfl (hs.inProgress (by simp [hst]))
      (List.length_eq_zero_iff.mp (hlen.trans (hs.syncEmpty hst)))
  | hdr =>
    have hres := hs.inProgress (by simp [hst])
    have hmarker := (hread 0).symm.trans (hs.markerFirst (.inl hst))
    obtain h1 | h2 := hs.headerLen hst
    · obtain ⟨a, rfl⟩ := List.length_eq_one_iff.mp (hlen.trans h1)
      exact .marker rfl hres (by simpa using hmarker)
    · have hreg := (hread 1).symm.trans (hs.registrySecond (.inl ⟨hst, h2⟩))
      obtain ⟨a, b, rfl⟩ := List.length_eq_two.mp (hlen.trans h2)
      exact .header rfl hres (by simp_all)
  | pay =>
    obtain ⟨-, n, hn, hlt⟩ := hs.payloadLen hst
    obtain ⟨tail, held⟩ := eq_cons_three ((hread 0).symm.trans (hs.markerFirst (.inr hst)))
      ((hread 1).symm.trans (hs.registrySecond (.inr hst))) ((hread 2).symm.trans hn)
    exact .payload rfl (hs.inProgress (by simp [hst])) n tail held (hlen ▸ hlt)
  | idle =>
    have hcomplete (hres : s.res = .ok ∨ s.res = .badCksum) : ∃ n tail,
        f = Config.marker :: s.reqReg :: n :: tail ∧ f.length = max 3 (n.toNat + 2) := by
      obtain ⟨h0, h1, n, h2, hmax⟩ := hs.complete hst hres
      obtain ⟨tail, held⟩ := eq_cons_three ((hread 0).symm.trans h0) ((hread 1).symm.trans h1)
        ((hread 2).symm.trans h2)
      exact ⟨n, tail, held, hlen.trans hmax⟩
    cases hres : s.res with
    | none =>
      exact .nothing rfl (.inl rfl)
        (List.length_eq_zero_iff.mp (hlen.trans (hs.noAttemptEmpty hst hres)))
    | timedOut =>
      exact .nothing rfl (.inr rfl)
        (List.length_eq_zero_iff.mp (hlen.trans (hs.timedOutEmpty hres)))
    | ok =>
      obtain ⟨g, hg, hvalid⟩ := hs.okValid hres
      obtain rfl : f = g := Option.some.inj (hf.frame.symm.trans hg)
      obtain ⟨n, tail, held, hmax⟩ := hcomplete (.inl hres)
      exact .complete rfl n tail held hmax (.inl ⟨rfl, hvalid⟩)
    | badCksum =>
      obtain ⟨g, hg, hvalid⟩ := hs.badInvalid hres
      obtain rfl : f = g := Option.some.inj (hf.frame.symm.trans hg)
      obtain ⟨n, tail, held, hmax⟩ := hcomplete (.inr hres)
      exact .complete rfl n tail held hmax (.inr ⟨rfl, hvalid⟩)
    | errorFrame =>
      obtain ⟨hp, hpair⟩ := hs.errorPair hres
      exact .errorPair rfl rfl hp (Option.some.inj (hf.frame.symm.trans hpair))
    | mismatch => exact absurd hres hs.noMismatch

/-! ### What a shape says of each receive state and each outcome -/

section

variable {p : Config.Params} {reg : Byte} {st : RxState} {res : Res} {f : List Byte}

theorem AttemptShape.length_le (h : AttemptShape p reg st res f) : f.length ≤ Config.bufCap := by
  have hcap : Config.bufCap = 257 := rfl
  cases h with
  | nothing _ _ held | sync _ _ held | marker _ _ held | header _ _ held | errorPair _ _ _ held =>
    simp [held, hcap]
  | payload _ _ n _ _ hlt => have := n.isLt; omega
  | complete _ n _ _ hlen _ => have := n.isLt; omega

theorem AttemptShape.of_busy (h : AttemptShape p reg st res f) (hst : st ≠ .idle) : res = .none := by
  cases h with
  | sync _ hres _ | marker _ hres _ | header _ hres _ | payload _ hres _ _ _ _ => exact hres
  | nothing hidle _ _ | complete hidle _ _ _ _ _ | errorPair hidle _ _ _ => exact absurd hidle hst

theorem AttemptShape.of_sync (h : AttemptShape p reg .sync res f) : f = [] := by
  cases h with
  | sync _ _ held => exact held
  | _ => contradiction

theorem AttemptShape.of_hdr (h : AttemptShape p reg .hdr res f) :
    f = [Config.marker] ∨ f = [Config.marker, reg] := by
  cases h with
  | marker _ _ held => exact .inl held
  | header _ _ held => exact .inr held
  | _ => contradiction

theorem AttemptShape.of_pay (h : AttemptShape p reg .pay res f) :
    ∃ n tail, f = Config.marker :: reg :: n :: tail ∧ f.length < n.toNat + 2 := by
  cases h with
  | payload _ _ n tail held hlt => exact ⟨n, tail, held, hlt⟩
  | _ => contradiction

theorem AttemptShape.of_idle_none (h : AttemptShape p reg .idle .none f) : f = [] := by
  cases h with
  | nothing _ _ held => exact held
  | complete _ _ _ _ _ hres => simp at hres
  | _ => contradiction

theorem AttemptShape.of_timedOut (h : AttemptShape p reg st .timedOut f) : f = [] := by
  cases h with
  | nothing _ _ held => exact held
  | complete _ _ _ _ _ hres => simp at hres
  | _ => contradiction

theorem AttemptShape.of_errorFrame (h : AttemptShape p reg st .errorFrame f) :
    p.pErrInSync = true ∧ f = [Config.errorFirst, Config.errorSecond] := by
  cases h with
  | errorPair _ _ hp held => exact ⟨hp, held⟩
  | nothing _ hres _ => simp at hres
  | complete _ _ _ _ _ hres => simp at hres
  | _ => contradiction

theorem AttemptShape.ne_mismatch (h : AttemptShape p reg st res f) : res ≠ .mismatch := by
  rintro rfl
  cases h with
  | nothing _ hres _ => simp at hres
  | complete _ _ _ _ _ hres => simp at hres
  | _ => contradiction

/-- The frame of a complete attempt, and what its outcome says of it (R249, R252). -/
theorem AttemptShape.of_checked (h : AttemptShape p reg st res f) (hres : res = .ok ∨ res = .badCksum) :
    (∃ n tail, f = Config.marker :: reg :: n :: tail ∧ f.length = max 3 (n.toNat + 2)) ∧
      ((res = .ok ∧ validate f = true) ∨ (res = .badCksum ∧ validate f = false)) := by
  cases h with
  | complete _ n tail held hlen hvalid => exact ⟨⟨n, tail, held, hlen⟩, hvalid⟩
  | nothing _ hnone _ => rcases hres with rfl | rfl <;> simp at hnone
  | _ => rcases hres with rfl | rfl <;> contradiction

end

/-- The converse of `attemptShape_of_inv`. -/
theorem inv_of_shape {s : State} {f : List Byte} (hf : Holds s f)
    (shape : AttemptShape s.params s.reqReg s.st s.res f) (display : s.disp.length = s.cfg.length)
    (cause : s.fault = true ↔ s.fcause ≠ .none)
    (notStarted : s.cfgFixed = false → s.st = .idle ∧ s.res = .none)
    (alphabets : s.params.wf = true) : Inv s := by
  have hread (k : Nat) : fbRead s k = f[k]? := fbRead_of_frame hf.frame k
  have hlen : s.len = f.length := hf.length.symm
  exact {
    memory := hf.memory
    capacity := hlen ▸ shape.length_le
    display, cause, notStarted, alphabets
    inProgress := shape.of_busy
    noMismatch := shape.ne_mismatch
    syncEmpty := fun h => by
      obtain rfl := (h ▸ shape).of_sync
      exact hlen
    headerLen := fun h => by
      obtain rfl | rfl := (h ▸ shape).of_hdr
      · exact .inl hlen
      · exact .inr hlen
    payloadLen := fun h => by
      obtain ⟨n, tail, rfl, hlt⟩ := (h ▸ shape).of_pay
      rw [hread, hlen]
      exact ⟨Nat.le_add_left 3 tail.length, n, rfl, hlt⟩
    markerFirst := by
      rw [hread]
      rintro (h | h)
      · obtain rfl | rfl := (h ▸ shape).of_hdr <;> rfl
      · obtain ⟨n, tail, rfl, -⟩ := (h ▸ shape).of_pay
        rfl
    registrySecond := by
      rw [hread]
      rintro (⟨h, h2⟩ | h)
      · obtain rfl | rfl := (h ▸ shape).of_hdr
        · simp [hlen] at h2
        · rfl
      · obtain ⟨n, tail, rfl, -⟩ := (h ▸ shape).of_pay
        rfl
    complete := fun _ hres => by
      obtain ⟨⟨n, tail, rfl, hmax⟩, -⟩ := shape.of_checked hres
      rw [hread, hread, hread, hlen]
      exact ⟨rfl, rfl, n, rfl, hmax⟩
    okValid := fun hres => by
      obtain ⟨-, ⟨-, hvalid⟩ | ⟨hbad, -⟩⟩ := shape.of_checked (.inl hres)
      · exact ⟨f, hf.frame, hvalid⟩
      · simp [hres] at hbad
    badInvalid := fun hres => by
      obtain ⟨-, ⟨hok, -⟩ | ⟨-, hvalid⟩⟩ := shape.of_checked (.inr hres)
      · simp [hres] at hok
      · exact ⟨f, hf.frame, hvalid⟩
    errorPair := fun hres => by
      obtain ⟨hp, rfl⟩ := (hres ▸ shape).of_errorFrame
      exact ⟨hp, hf.frame⟩
    timedOutEmpty := fun hres => by
      obtain rfl := (hres ▸ shape).of_timedOut
      exact hlen
    noAttemptEmpty := fun h hres => by
      obtain rfl := (h ▸ hres ▸ shape).of_idle_none
      exact hlen }

end Sys2Proof.Proofs
end

section
/-! # What STEP makes of an attempt (spec/42_receive.md R243 to R253)

`consumeByte_of_shape` follows a consumed byte through each shape of an attempt: there is a next state,
its frame has a shape again, and it is the old frame with the byte, or a fresh one. STEP's safety, its
frame and its part of the invariant come from it. -/

namespace Sys2Proof.Proofs

open Sys2Proof Sys2Proof.Machine Sys2Proof.Claims

/-! ### The fields STEP writes -/

/-- `t` differs from `s` at most in the fields that a consumed byte can change (R241). -/
def ReceiveWrites (s t : State) : Prop :=
  t = { s with st := t.st, res := t.res, len := t.len, fb := t.fb, prev15 := t.prev15 }

theorem receiveWrites_syncByte (b : Byte) (s : State) : ReceiveWrites s (syncByte b s) := by
  unfold syncByte
  split_ifs <;> rfl

theorem receiveWrites_registryCheck (r b : Byte) (s : State) :
    ReceiveWrites s (registryCheck r (appendByte b s)) := by
  unfold registryCheck
  split_ifs <;> rfl

theorem consumeByte_receiveWrites {s t : State} {b : Byte} (h : consumeByte b s = .next t) :
    ReceiveWrites s t := by
  obtain ⟨_, rfl⟩ | ⟨_, rfl⟩ | ⟨_, _, _, rfl⟩ | ⟨_, _, _, ha⟩ | ⟨_, _, ha⟩ := consumeByte_next h
  · rfl
  · exact receiveWrites_syncByte b s
  · exact receiveWrites_registryCheck b b s
  · obtain ⟨r, rfl⟩ | rfl := postAppend_finish_or_same ha <;> rfl
  · obtain ⟨r, rfl⟩ | rfl := postAppend_finish_or_same ha <;> rfl

/-- STEP writes the fields of the receive machine, and takes at most the head of the queue. -/
theorem exec_step_writes {s t : State} (h : exec .step s = .next t) :
    t = { s with
          st := t.st, res := t.res, len := t.len, fb := t.fb, prev15 := t.prev15, rxq := t.rxq } ∧
    (t.rxq = s.rxq ∨ ∃ b, s.rxq = b :: t.rxq) := by
  obtain ⟨_, rfl⟩ | ⟨_, _, rfl⟩ | ⟨_, _, _, rfl⟩ | ⟨_, _, b, rest, hrxq, hb⟩ := execStep_next h
  · exact ⟨rfl, .inl rfl⟩
  · exact ⟨rfl, .inl rfl⟩
  · exact ⟨rfl, .inl rfl⟩
  · have hw := consumeByte_receiveWrites hb
    have hrest : t.rxq = rest := congrArg State.rxq hw
    refine ⟨?_, .inr ⟨b, hrest ▸ hrxq⟩⟩
    rw [hrest]
    exact hw

/-! ### A byte past the registry check -/

@[simp] theorem frame_setSt (x : RxState) (s : State) : frame (setSt x s) = frame s :=
  frame_congr rfl rfl

@[simp] theorem frame_finish (r : Res) (s : State) : frame (finish r s) = frame s :=
  frame_congr rfl rfl

/-- R248 is dead on a frame that starts with the marker, and the length check of R249 is left. -/
theorem postAppend_of_header {s : State} {r n : Byte} {tail : List Byte}
    (h : frame s = some (Config.marker :: r :: n :: tail)) :
    postAppend s = .next (if n.toNat + 2 ≤ s.len then
      finish (if validate (Config.marker :: r :: n :: tail) then .ok else .badCksum) s else s) := by
  rw [postAppend, withFrame_of_frame h]
  have herror : isErrorFrame (Config.marker :: r :: n :: tail) = false := rfl
  have hexpected : expectedLength (Config.marker :: r :: n :: tail) = n.toNat + 2 := rfl
  simp only [herror, hexpected, Bool.false_eq_true, if_false]
  split_ifs <;> rfl

/-- R246, R251: past the registry check the next byte completes a header, and it is at most the last
byte of the frame that the header announces. -/
theorem AttemptShape.append_pastRegistry {p : Config.Params} {reg : Byte} {st : RxState} {res : Res}
    {f : List Byte} (shape : AttemptShape p reg st res f)
    (hst : (st = .hdr ∧ f.length = 2) ∨ st = .pay) (b : Byte) :
    ∃ n tail, f ++ [b] = Config.marker :: reg :: n :: tail ∧
      f.length + 1 ≤ max 3 (n.toNat + 2) := by
  obtain ⟨rfl, h2⟩ | rfl := hst
  · obtain rfl | rfl := shape.of_hdr
    · simp at h2
    · exact ⟨b, [], rfl, le_max_left _ _⟩
  · obtain ⟨n, tail, rfl, hlt⟩ := shape.of_pay
    exact ⟨n, tail ++ [b], rfl, le_max_of_le_right hlt⟩

/-- What a byte past the registry check does (R246 to R249): it is appended, and the attempt ends when
the frame has its announced length. -/
theorem consumeByte_of_complete_header {s : State} {f tail : List Byte} {b n : Byte}
    (hf : Holds s f) (hst : (s.st = .hdr ∧ s.len = 2) ∨ s.st = .pay)
    (held : f ++ [b] = Config.marker :: s.reqReg :: n :: tail)
    (hlen : f.length + 1 ≤ max 3 (n.toNat + 2)) :
    consumeByte b s = .next (if n.toNat + 2 ≤ s.len + 1 then
      finish (if validate (f ++ [b]) then .ok else .badCksum) (appendByte b s)
      else setSt .pay (appendByte b s)) := by
  have hroom : s.len < Config.bufCap := by
    have hn := n.isLt
    have hcap : Config.bufCap = 257 := rfl
    have := hf.length
    omega
  have hframe : frame (setSt .pay (appendByte b s)) = some (Config.marker :: s.reqReg :: n :: tail) := by
    rw [frame_setSt, (hf.append b).frame, held]
  rw [consumeByte_of_pastRegistry b hst hroom, postAppend_of_header hframe, held]
  rfl

/-- Settles O19: whether the attempt ends or goes on, the frame is that of the append. -/
theorem stepAppendsAndCompletes : Obligations.StepAppendsAndCompletes := by
  intro s f b rest hs hst hframe hdeadline hrxq
  have hf : Holds s f := ⟨hs.memory, hframe⟩
  obtain ⟨n, tail, held, hlen⟩ :=
    (attemptShape_of_inv hs hf).append_pastRegistry (by rwa [hf.length]) b
  have hbusy : s.st ≠ .idle := by rintro h; simp [h] at hst
  have hcksum : (if validate (f ++ [b]) then Res.ok else .badCksum) =
      if checksum f = b then .ok else .badCksum := by
    have hne : f ≠ [] := by rintro rfl; simp at held
    simp only [validate_append_singleton, hne, ne_eq, not_false_eq_true, true_and]
  have hf' : Holds (setRxq rest s) f := hf.congr rfl rfl
  have happend : frame (appendByte b (setRxq rest s)) = some (f ++ [b]) := (hf'.append b).frame
  have hother (a : Nat) (ha : a ≠ s.len) : fbRead (appendByte b (setRxq rest s)) a = fbRead s a :=
    fbRead_appendByte_other b (setRxq rest s) ha
  refine ⟨_, n, (exec_step_of_byte hbusy hdeadline hrxq).trans
    (consumeByte_of_complete_header hf' hst held hlen), by rw [held]; rfl, ?_⟩
  rw [hcksum, setRxq_len]
  by_cases hdone : n.toNat + 2 ≤ s.len + 1
  · rw [if_pos hdone, if_pos hdone, frame_finish]
    exact ⟨happend, hother, rfl⟩
  · rw [if_neg hdone, if_neg hdone, frame_setSt]
    exact ⟨happend, hother, rfl⟩

/-! ### A byte in each shape -/

/-- The frame `f'` after a byte `b` is consumed with the frame `f` held: nothing, the frame with the
byte, or the two bytes of an error pair in an empty buffer. -/
def ByteMove (b : Byte) (res : Res) (f f' : List Byte) : Prop :=
  f' = [] ∨ f' = f ++ [b] ∨
    (res = .errorFrame ∧ f = [] ∧ f' = [Config.errorFirst, Config.errorSecond])

/-- `sync_byte` on an empty buffer (R243, R244). -/
theorem syncByte_of_shape {s : State} (hf : Holds s []) (hst : s.st = .sync) (hres : s.res = .none)
    (b : Byte) :
    ∃ f', Holds (syncByte b s) f' ∧
      AttemptShape s.params s.reqReg (syncByte b s).st (syncByte b s).res f' ∧
      ByteMove b (syncByte b s).res [] f' := by
  have hfb := hf.fb_eq_nil
  by_cases hb : b = Config.marker
  · subst hb
    rw [syncByte_marker]
    refine ⟨[Config.marker], ⟨?_, ?_⟩, .marker rfl hres rfl, .inr (.inl rfl)⟩
    · simp [hfb, Memory.write, Memory.truncate]
    · simp [frame, fbRange, fbRead, hfb, Memory.write, Memory.truncate, Memory.read]
  by_cases hpair : s.params.pErrInSync = true ∧ s.prev15 = true ∧ b = Config.errorSecond
  · obtain ⟨hp, hprev, rfl⟩ := hpair
    rw [syncByte_errorPair hp hprev]
    refine ⟨[Config.errorFirst, Config.errorSecond], ⟨?_, ?_⟩, .errorPair rfl rfl hp rfl,
      .inr (.inr ⟨rfl, rfl, rfl⟩)⟩
    · simp [hfb, Memory.write, Memory.truncate]
      rfl
    · simp [frame, fbRange, fbRead, hfb, Memory.write, Memory.truncate, Memory.read]
  · rw [syncByte_discard hb hpair]
    exact ⟨[], hf.congr rfl rfl, .sync hst hres rfl, .inl rfl⟩

/-- `registry_check` on the registry byte just stored (R245). -/
theorem registryCheck_of_shape {s : State} (hf : Holds s [Config.marker]) (hst : s.st = .hdr)
    (hres : s.res = .none) (b : Byte) :
    ∃ f', Holds (registryCheck b (appendByte b s)) f' ∧
      AttemptShape s.params s.reqReg (registryCheck b (appendByte b s)).st
        (registryCheck b (appendByte b s)).res f' ∧
      ByteMove b (registryCheck b (appendByte b s)).res [Config.marker] f' := by
  by_cases hb : b = s.reqReg
  · rw [registryCheck_of_eq (s := appendByte b s) hb]
    exact ⟨_, hf.append b, .header hst hres (by rw [hb]; rfl), .inr (.inl rfl)⟩
  · rw [registryCheck_of_ne (s := appendByte b s) hb]
    exact ⟨[], (holds_setLen_zero _).congr rfl rfl, .sync rfl hres rfl, .inl rfl⟩

/-- A consumed byte has a next state in every shape of an attempt in progress, and leads to a shape. -/
theorem consumeByte_of_shape {s : State} {f : List Byte} (hf : Holds s f)
    (shape : AttemptShape s.params s.reqReg s.st s.res f) (hbusy : s.st ≠ .idle) (b : Byte) :
    ∃ t f', consumeByte b s = .next t ∧ Holds t f' ∧
      AttemptShape s.params s.reqReg t.st t.res f' ∧ ByteMove b t.res f f' := by
  have hres : s.res = .none := shape.of_busy hbusy
  have hpast (hst : (s.st = .hdr ∧ f.length = 2) ∨ s.st = .pay) :
      ∃ t f', consumeByte b s = .next t ∧ Holds t f' ∧
        AttemptShape s.params s.reqReg t.st t.res f' ∧ ByteMove b t.res f f' := by
    obtain ⟨n, tail, held, hlen⟩ := shape.append_pastRegistry hst b
    refine ⟨_, f ++ [b],
      consumeByte_of_complete_header hf (by rwa [hf.length] at hst) held hlen, ?_⟩
    have happend : Holds (appendByte b s) (f ++ [b]) := hf.append b
    have hlen' : (f ++ [b]).length = f.length + 1 := List.length_append
    have hthree : 3 ≤ (f ++ [b]).length := held ▸ Nat.le_add_left 3 tail.length
    by_cases hdone : n.toNat + 2 ≤ s.len + 1
    · rw [if_pos hdone]
      refine ⟨happend.congr rfl rfl, .complete rfl n tail held ?_ ?_, .inr (.inl rfl)⟩
      · have := hf.length
        omega
      · cases validate (f ++ [b])
        · exact .inr ⟨rfl, rfl⟩
        · exact .inl ⟨rfl, rfl⟩
    · rw [if_neg hdone]
      refine ⟨happend.congr rfl rfl, .payload rfl hres n tail held ?_, .inr (.inl rfl)⟩
      have := hf.length
      omega
  cases shape with
  | nothing hst _ _ | complete hst _ _ _ _ _ | errorPair hst _ _ _ => exact absurd hst hbusy
  | sync hst _ held =>
    subst held
    obtain ⟨f', hf', shape', hmove⟩ := syncByte_of_shape hf hst hres b
    exact ⟨_, f', consumeByte_of_sync b hst, hf', shape', hmove⟩
  | marker hst _ held =>
    subst held
    obtain ⟨f', hf', shape', hmove⟩ := registryCheck_of_shape hf hst hres b
    exact ⟨_, f', consumeByte_of_marker b hst hf.length.symm, hf', shape', hmove⟩
  | header hst _ held => exact hpast (.inl ⟨hst, by rw [held]; rfl⟩)
  | payload hst _ _ _ _ _ => exact hpast (.inr hst)

end Sys2Proof.Proofs
end

section
/-! # The invariant (spec/42_receive.md R250 to R253, spec/70_reset_and_hazards.md R330)

`exec_step_of_shape` gathers what STEP does with a frame of some shape; the statements about every STEP
under the invariant are read off it. The other instructions and the moves of the environment leave the
attempt as it is (`inv_congr`), start a fresh one (REQUEST), or drop it (a reset). -/

namespace Sys2Proof.Proofs

open Sys2Proof Sys2Proof.Machine Sys2Proof.Claims

/-! ### STEP under the invariant -/

/-- STEP has a next state, whose frame has a shape: it is the old one or none where no byte is taken,
and what the byte makes of it otherwise. -/
theorem exec_step_of_shape {s : State} {f : List Byte} (hf : Holds s f)
    (shape : AttemptShape s.params s.reqReg s.st s.res f) :
    ∃ t f', exec .step s = .next t ∧ Holds t f' ∧ AttemptShape s.params s.reqReg t.st t.res f' ∧
      (f' = f ∨ f' = [] ∨ ∃ b, s.rxq = b :: t.rxq ∧ ByteMove b t.res f f') := by
  by_cases hidle : s.st = .idle
  · exact ⟨s, f, exec_step_of_idle hidle, hf, shape, .inl rfl⟩
  by_cases hdeadline : BeforeDeadline s
  · cases hrxq : s.rxq with
    | nil => exact ⟨s, f, exec_step_of_empty hidle hdeadline hrxq, hf, shape, .inl rfl⟩
    | cons b rest =>
      obtain ⟨t, f', ht, hf', shape', hmove⟩ :=
        consumeByte_of_shape (s := setRxq rest s) (hf.congr rfl rfl) shape hidle b
      have hrest : t.rxq = rest := congrArg State.rxq (consumeByte_receiveWrites ht)
      exact ⟨t, f', (exec_step_of_byte hidle hdeadline hrxq).trans ht, hf', shape',
        .inr (.inr ⟨b, by rw [hrest], hmove⟩)⟩
  · exact ⟨_, [], exec_step_of_deadline hidle hdeadline, (holds_setLen_zero s).congr rfl rfl,
      .nothing rfl (.inr rfl) rfl, .inr (.inl rfl)⟩

/-- Settles O20: every shape has a next state. -/
theorem stepNeverFaults : Obligations.StepNeverFaults := by
  intro s hs
  obtain ⟨f, hf⟩ := exists_holds_of_inv hs
  obtain ⟨t, -, ht, -⟩ := exec_step_of_shape hf (attemptShape_of_inv hs hf)
  exact ⟨t, ht⟩

/-- The bytes of a frame read as before when it is extended. -/
theorem fbRead_of_append {s t : State} {f g : List Byte} (hf : Holds s f) (hg : Holds t (f ++ g))
    {a : Nat} (ha : a < s.len) : fbRead t a = fbRead s a := by
  rw [fbRead_of_frame hf.frame, fbRead_of_frame hg.frame,
    List.getElem?_append_left (by rwa [hf.length])]

/-- Settles O21: the fields, from `exec_step_writes`; the bytes, from each way the frame can move. -/
theorem stepFrame : Obligations.StepFrame := by
  intro s t h
  obtain ⟨hwrites, hrxq⟩ := exec_step_writes h
  refine ⟨hwrites, hrxq, fun hs => ?_⟩
  obtain ⟨f, hf⟩ := exists_holds_of_inv hs
  obtain ⟨t', f', ht', hf', -, hmove⟩ := exec_step_of_shape hf (attemptShape_of_inv hs hf)
  obtain rfl : t = t' := Host.Outcome.next.inj (h.symm.trans ht')
  have hempty (hnil : f' = []) : (∀ a, a < s.len → a < t.len → fbRead t a = fbRead s a) ∧
      t.len ≤ s.len := by
    subst hnil
    have hlen : t.len = 0 := hf'.length.symm
    exact ⟨fun a _ ha => absurd ha (by omega), by omega⟩
  obtain hsame | hnil | ⟨b, hb, hnil | happend | ⟨herror, hnil, hpair⟩⟩ := hmove
  · subst hsame
    exact ⟨fun a ha _ => fbRead_of_append (g := []) hf (by simpa using hf') ha,
      .inl (hf'.length.symm.trans hf.length).le⟩
  · exact (hempty hnil).imp_right .inl
  · exact (hempty hnil).imp_right .inl
  · subst happend
    refine ⟨fun a ha _ => fbRead_of_append hf hf' ha, .inr (.inl ⟨?_, b, hb, ?_⟩)⟩
    · rw [← hf'.length, ← hf.length, List.length_append, List.length_singleton]
    · rw [fbRead_of_frame hf'.frame, ← hf.length, List.getElem?_concat_length]
  · subst hnil hpair
    have hlen : s.len = 0 := hf.length.symm
    exact ⟨fun a ha _ => absurd ha (by omega), .inr (.inr ⟨herror, hlen, hf'.frame⟩)⟩

/-- What `exec_step_writes` leaves alone, field by field. -/
theorem exec_step_kept {s t : State} (h : exec .step s = .next t) :
    t.reqReg = s.reqReg ∧ t.tStart = s.tStart ∧ t.fault = s.fault ∧ t.fcause = s.fcause ∧
      t.cfgFixed = s.cfgFixed := by
  rw [(exec_step_writes h).1]
  exact ⟨rfl, rfl, rfl, rfl, rfl⟩

/-- STEP keeps the invariant: it touches nothing but the attempt, whose new frame has a shape. -/
theorem inv_exec_step {s t : State} (hs : Inv s) (h : exec .step s = .next t) : Inv t := by
  by_cases hidle : s.st = .idle
  · rw [exec_step_of_idle hidle] at h
    cases h
    exact hs
  obtain ⟨f, hf⟩ := exists_holds_of_inv hs
  obtain ⟨t', f', ht', hf', shape, -⟩ := exec_step_of_shape hf (attemptShape_of_inv hs hf)
  obtain rfl : t = t' := Host.Outcome.next.inj (h.symm.trans ht')
  obtain ⟨hdisp, hcfg, hparams⟩ := execStep_resultsKept h
  obtain ⟨hreg, -, hfault, hfcause, hfixed⟩ := exec_step_kept h
  refine inv_of_shape hf' (by rwa [hparams, hreg]) (by rw [hdisp, hcfg, hs.display])
    (by rw [hfault, hfcause]; exact hs.cause) (fun hnot => ?_) (hparams ▸ hs.alphabets)
  exact absurd (hs.notStarted (hfixed ▸ hnot)).1 hidle

/-- Settles O22: the invariant of the next state names the parameter that `ERROR_FRAME` needs. -/
theorem noErrorFrameByDefault : Obligations.NoErrorFrameByDefault := by
  intro s t hs hp h herror
  have hon : t.params.pErrInSync = true := ((inv_exec_step hs h).errorPair herror).1
  rw [(execStep_resultsKept h).params, hp] at hon
  exact Bool.false_ne_true hon

/-! ### The other instructions -/

/-- The invariant sees the attempt, the bytes held, the parameters and the fault; of the configuration
and the display values only how many there are. -/
theorem inv_congr {s t : State} (hs : Inv s) (hst : t.st = s.st) (hres : t.res = s.res)
    (hreg : t.reqReg = s.reqReg) (hlen : t.len = s.len) (hfb : t.fb = s.fb)
    (hparams : t.params = s.params) (hdisp : t.disp.length = t.cfg.length)
    (hcause : t.fault = true ↔ t.fcause ≠ .none) (hfixed : t.cfgFixed = false → s.cfgFixed = false) :
    Inv t := by
  obtain ⟨f, hf⟩ := exists_holds_of_inv hs
  refine inv_of_shape (hf.congr hlen hfb) ?_ hdisp hcause (fun h => ?_) (hparams ▸ hs.alphabets)
  · rw [hparams, hreg, hst, hres]
    exact attemptShape_of_inv hs hf
  · rw [hst, hres]
    exact hs.notStarted (hfixed h)

theorem inv_raiseFault {s : State} {c : FCause} (hs : Inv s) (hc : c ≠ .none) :
    Inv (raiseFault c s) := by
  refine inv_congr hs (raiseFault_st c s) (raiseFault_res c s) (raiseFault_reqReg c s)
    (raiseFault_len c s) (raiseFault_fb c s) (raiseFault_params c s) ?_ ?_ ?_
  · rw [raiseFault_disp, raiseFault_cfg, hs.display]
  · rw [raiseFault_fault, raiseFault_fcause]
    split_ifs with hfault
    · simpa using hs.cause.mp hfault
    · simpa using hc
  · rw [raiseFault_cfgFixed]
    exact id

/-- R150: a fresh attempt holds nothing. -/
theorem inv_startAttempt {s : State} (reg : Byte) (hs : Inv s) (hfixed : s.cfgFixed = true) :
    Inv (startAttempt reg s) :=
  inv_of_shape ((holds_setLen_zero s).congr rfl rfl) (.sync rfl rfl rfl) hs.display hs.cause
    (fun h => absurd (hfixed.symm.trans h) (by decide)) hs.alphabets

theorem inv_execRequest {s t : State} {reg : Byte} (hs : Inv s) (hfixed : s.cfgFixed = true)
    (h : execRequest reg s = .next t) : Inv t := by
  obtain ⟨_, rfl⟩ | ⟨_, rfl⟩ := execRequest_next h
  · exact inv_raiseFault hs (by decide)
  · have hsent : Inv (txPutAll (makeRequest reg) s) := by
      rw [txPutAll_eq]
      exact inv_congr hs rfl rfl rfl rfl rfl rfl hs.display hs.cause id
    exact inv_startAttempt reg hsent ((txPutAll_cfgFixed _ s).trans hfixed)

/-- DECODE writes display values, one for each definition, or records a fault. -/
theorem inv_execDecode {s t : State} (hs : Inv s) (h : execDecode s = .next t) : Inv t := by
  obtain ⟨_, rfl⟩ | ⟨_, f, _, ⟨_, rfl⟩ | ⟨_, rfl⟩⟩ := execDecode_next h
  · exact inv_raiseFault hs (by decide)
  · exact inv_congr hs rfl rfl rfl rfl rfl rfl ((decodeEntries_length ..).trans hs.display) hs.cause id
  · exact hs

/-- Every instruction keeps the invariant; REQUEST does so once the configuration is fixed, as it is
when a command is presented (R37). -/
theorem inv_exec {i : Instr} {s t : State} (hs : Inv s)
    (hfixed : s.cfgFixed = true ∨ ∀ reg, i ≠ .request reg) (h : exec i s = .next t) : Inv t := by
  obtain ⟨rfl, hstep⟩ | ⟨reg, rfl, hrequest⟩ | ⟨_, hdecode⟩ | rfl | ⟨out, rfl⟩ := exec_next h
  · exact inv_exec_step hs hstep
  · obtain hfixed | hne := hfixed
    · exact inv_execRequest hs hfixed hrequest
    · exact absurd rfl (hne reg)
  · exact inv_execDecode hs hdecode
  · exact inv_raiseFault hs (by decide)
  · exact inv_congr hs rfl rfl rfl rfl rfl rfl hs.display hs.cause id

/-! ### The moves of the environment -/

/-- Taking the next event leaves everything the invariant sees. -/
theorem inv_setInput {s : State} (rest : List Event) (hs : Inv s) : Inv (setInput rest s) :=
  inv_congr hs rfl rfl rfl rfl rfl rfl hs.display hs.cause id

theorem inv_present {s : State} (τ : BitVec 32) (hs : Inv s) : Inv (present τ s) :=
  inv_congr hs rfl rfl rfl rfl rfl rfl hs.display hs.cause fun h => by simp at h

theorem inv_setConvIn {s : State} (sl : Slice) (hs : Inv s) : Inv (setConvIn sl s) :=
  inv_congr hs rfl rfl rfl rfl rfl rfl hs.display hs.cause id

theorem inv_resetBlock {s : State} (hs : Inv s) : Inv (resetBlock s) :=
  inv_of_no_attempt rfl rfl rfl rfl rfl rfl List.length_replicate hs.alphabets

/-- Before the boot no attempt has been made, so the parameters it brings meet an empty buffer. -/
theorem inv_boot {s t : State} {p : Config.Params} {rs : List ConfigRecord} (hs : Inv s)
    (h : boot p rs s = .next t) : Inv t := by
  obtain ⟨hfixed, hp, ds, _, rfl⟩ := boot_next h
  obtain ⟨hst, hres⟩ := hs.notStarted hfixed
  have hempty : s.len = 0 := hs.noAttemptEmpty hst hres
  obtain ⟨f, hf⟩ := exists_holds_of_inv hs
  have hnil : f = [] := List.length_eq_zero_iff.mp (hf.length.trans hempty)
  exact inv_of_shape (hf.congr rfl rfl) (.nothing hst (.inl hres) hnil) List.length_replicate
    hs.cause (fun _ => ⟨hst, hres⟩) hp

/-- R108, R112: a conversion code is no REQUEST. -/
theorem decode_conversion_ne_request (code : BitVec 16) (reg : Byte) :
    decode (.conversion code) ≠ .request reg := by
  intro h
  have hencode := (encode_decode_conversion code).2
  rw [h] at hencode
  cases hencode

theorem inv_runEvent {e : Event} {s t : State} (hs : Inv s) (h : runEvent e s = .next t) : Inv t := by
  cases e with
  | command w τ => exact inv_exec (inv_present τ hs) (.inl rfl) h
  | rx bytes =>
    cases h
    exact inv_congr hs rfl rfl rfl rfl rfl rfl hs.display hs.cause id
  | reset =>
    cases h
    exact inv_resetBlock hs
  | boot p rs => exact inv_boot hs h
  | read port =>
    rw [hostRead_next h]
    exact inv_congr hs rfl rfl rfl rfl rfl rfl hs.display hs.cause id
  | convert code sl =>
    exact inv_exec (inv_setConvIn sl hs) (.inr (decode_conversion_ne_request code)) h

/-- Settles O55: a step runs an event on the state without it, or changes nothing. -/
theorem everyStepKeepsInvariant : Obligations.EveryStepKeepsInvariant := by
  intro s t hs h
  cases hin : s.input with
  | nil =>
    rw [step_of_no_input hin] at h
    cases h
    exact hs
  | cons e rest =>
    rw [step_of_event hin] at h
    exact inv_runEvent (inv_setInput rest hs) h

/-! ### Moves that always have a next state -/

/-- Under the invariant every instruction has a next state: only STEP and DECODE read the frame. -/
theorem exec_completes {s : State} (hs : Inv s) (i : Instr) : ∃ t, exec i s = .next t := by
  cases i with
  | step => exact stepNeverFaults s hs
  | request reg =>
    by_cases hidle : s.st = .idle
    · exact ⟨_, exec_request_of_idle reg hidle⟩
    · exact ⟨_, exec_request_of_busy reg hidle⟩
  | decode =>
    by_cases hidle : s.st = .idle
    · obtain ⟨f, hf⟩ := exists_holds_of_inv hs
      rw [exec, execDecode, if_neg (not_not.mpr hidle), withFrame_of_frame hf.frame]
      split_ifs
      · exact ⟨_, rfl⟩
      · exact ⟨_, rfl⟩
    · exact ⟨_, exec_decode_of_busy hidle⟩
  | _ => exact ⟨_, rfl⟩

/-- Settles O57: a command and a conversion run an instruction, and the other two moves have one next
state. -/
theorem unconditionalMovesComplete : Obligations.UnconditionalMovesComplete := by
  intro s e rest hs hin hmove
  rw [step_of_event hin]
  have hrest : Inv (setInput rest s) := inv_setInput rest hs
  cases e with
  | command w τ => exact exec_completes (inv_present τ hrest) _
  | convert code sl => exact exec_completes (inv_setConvIn sl hrest) _
  | rx bytes => exact ⟨_, rfl⟩
  | reset => exact ⟨_, rfl⟩
  | boot p rs => cases hmove
  | read port => cases hmove

/-! ### The reserved outcome -/

theorem postAppend_ne_mismatch {s t : State} (h : postAppend s = .next t) (hs : s.res ≠ .mismatch) :
    t.res ≠ .mismatch := by
  obtain ⟨_, _, ⟨_, rfl⟩ | ⟨_, _, _, rfl⟩ | ⟨_, _, _, rfl⟩ | ⟨_, _, rfl⟩⟩ := postAppend_next h
  · exact Res.noConfusion
  · exact Res.noConfusion
  · exact Res.noConfusion
  · exact hs

theorem syncByte_ne_mismatch {s : State} (b : Byte) (hs : s.res ≠ .mismatch) :
    (syncByte b s).res ≠ .mismatch := by
  unfold syncByte
  split_ifs
  · exact hs
  · exact Res.noConfusion
  · exact hs

@[simp] theorem registryCheck_res (r : Byte) (s : State) : (registryCheck r s).res = s.res := by
  unfold registryCheck
  split_ifs <;> rfl

theorem consumeByte_ne_mismatch {s t : State} {b : Byte} (h : consumeByte b s = .next t)
    (hs : s.res ≠ .mismatch) : t.res ≠ .mismatch := by
  obtain ⟨_, rfl⟩ | ⟨_, rfl⟩ | ⟨_, _, _, rfl⟩ | ⟨_, _, _, ha⟩ | ⟨_, _, ha⟩ := consumeByte_next h
  · exact hs
  · exact syncByte_ne_mismatch b hs
  · rwa [registryCheck_res]
  · exact postAppend_ne_mismatch ha hs
  · exact postAppend_ne_mismatch ha hs

theorem execStep_ne_mismatch {s t : State} (h : execStep s = .next t) (hs : s.res ≠ .mismatch) :
    t.res ≠ .mismatch := by
  obtain ⟨_, rfl⟩ | ⟨_, _, rfl⟩ | ⟨_, _, _, rfl⟩ | ⟨_, _, b, rest, _, hb⟩ := execStep_next h
  · exact hs
  · exact Res.noConfusion
  · exact hs
  · exact consumeByte_ne_mismatch (s := setRxq rest s) hb hs

/-- Settles O28: of the instructions only STEP and REQUEST write `res`, and neither writes `MISMATCH`. -/
theorem mismatchIsNeverWritten : Obligations.MismatchIsNeverWritten := by
  intro i s t h hs
  obtain ⟨_, hstep⟩ | ⟨_, _, hrequest⟩ | ⟨_, hdecode⟩ | rfl | ⟨_, rfl⟩ := exec_next h
  · exact execStep_ne_mismatch hstep hs
  · obtain ⟨_, rfl⟩ | ⟨_, rfl⟩ := execRequest_next hrequest
    · rwa [raiseFault_res]
    · exact Res.noConfusion
  · rwa [(execDecode_receiveKept hdecode).res]
  · rwa [raiseFault_res]
  · exact hs

end Sys2Proof.Proofs
end

section
/-! # The reception of a frame (spec/42_receive.md R252, R255, R256)

Runs of STEP before the deadline. `Advances` is one STEP of a run, which keeps the invariant and the
attempt; the statements about one STEP say where each byte of a stream leads, and the frame is received
by induction on the bytes that are still to come. -/

namespace Sys2Proof.Proofs

open Sys2Proof Sys2Proof.Machine Sys2Proof.Claims

/-! ### One STEP of a run -/

/-- STEPs on `s` at the given times are before its deadline. -/
def InTime (s : State) (times : List (BitVec 32)) : Prop :=
  ∀ τ ∈ times, BeforeDeadline { s with now := τ }

theorem inTime_of_lt {s : State} {times : List (BitVec 32)}
    (h : ∀ τ ∈ times, (τ - s.tStart).toNat < s.params.tTimeout.toNat) : InTime s times := by
  intro τ hτ
  rw [BeforeDeadline, ← elapsed_toNat]
  exact h τ hτ

/-- STEP at the time `τ` leads from `s` to `t`, within one attempt. -/
structure Advances (s : State) (τ : BitVec 32) (t : State) : Prop where
  step : exec .step { s with now := τ } = .next t
  inv : Inv t
  reqReg : t.reqReg = s.reqReg
  tStart : t.tStart = s.tStart
  params : t.params = s.params

theorem inv_setNow {s : State} (τ : BitVec 32) (hs : Inv s) : Inv { s with now := τ } :=
  inv_congr hs rfl rfl rfl rfl rfl rfl hs.display hs.cause id

theorem frame_setNow (τ : BitVec 32) (s : State) : frame { s with now := τ } = frame s :=
  frame_congr rfl rfl

theorem advances_of_step {s t : State} {τ : BitVec 32} (hs : Inv s)
    (h : exec .step { s with now := τ } = .next t) : Advances s τ t := by
  obtain ⟨hreg, htStart, -⟩ := exec_step_kept h
  exact ⟨h, inv_exec_step (inv_setNow τ hs) h, hreg, htStart, (execStep_resultsKept h).params⟩

theorem Advances.stepsAt_cons {s t : State} {τ : BitVec 32} (h : Advances s τ t)
    (times : List (BitVec 32)) : stepsAt (τ :: times) s = stepsAt times t := by
  rw [stepsAt, h.step]

theorem Advances.inTime {s t : State} {τ : BitVec 32} {times : List (BitVec 32)}
    (h : Advances s τ t) (htimes : InTime s (τ :: times)) : InTime t times := by
  intro σ hσ
  have hs : BeforeDeadline { s with now := σ } := htimes σ (List.mem_cons_of_mem τ hσ)
  rwa [BeforeDeadline, elapsedMs, ← h.tStart, ← h.params] at hs

section

variable {s : State} {τ : BitVec 32} {rest : List Byte}

/-- R243, a byte discarded: with `P_ERR_IN_SYNC = 0` no pair is looked for. -/
theorem advances_discard {b : Byte} (hs : Inv s) (hst : s.st = .sync)
    (hp : s.params.pErrInSync = false) (hτ : BeforeDeadline { s with now := τ }) (hb : b ≠ 0x40)
    (hrxq : s.rxq = b :: rest) : ∃ t, Advances s τ t ∧ t.st = .sync ∧ t.rxq = rest := by
  obtain ⟨-, hdiscard⟩ := stepSynchronises { s with now := τ } b rest hst hτ hrxq
  exact ⟨_, advances_of_step hs (hdiscard hb fun hpair => by simp [hp] at hpair), hst, rfl⟩

/-- R243, the marker. -/
theorem advances_marker (hs : Inv s) (hst : s.st = .sync) (hτ : BeforeDeadline { s with now := τ })
    (hrxq : s.rxq = 0x40 :: rest) :
    ∃ t, Advances s τ t ∧ t.st = .hdr ∧ t.len = 1 ∧ t.rxq = rest := by
  obtain ⟨hmarker, -⟩ := stepSynchronises { s with now := τ } 0x40 rest hst hτ hrxq
  obtain ⟨t, ht, heq, -⟩ := hmarker rfl
  exact ⟨t, advances_of_step hs ht, by rw [heq], by rw [heq], by rw [heq]⟩

/-- R245, the match. -/
theorem advances_registry (hs : Inv s) (hst : s.st = .hdr) (hlen : s.len = 1)
    (hτ : BeforeDeadline { s with now := τ }) (hrxq : s.rxq = s.reqReg :: rest) :
    ∃ t, Advances s τ t ∧ t.st = .hdr ∧ t.len = 2 ∧ t.rxq = rest := by
  obtain ⟨t, ht, -, hmatch⟩ := stepChecksRegistry { s with now := τ } s.reqReg rest hst hlen hτ hrxq
  obtain ⟨heq, -⟩ := hmatch rfl
  exact ⟨t, advances_of_step hs ht, by rw [heq]; exact hst, by rw [heq], by rw [heq]⟩

/-- R245, the mismatch. -/
theorem advances_mismatch {b : Byte} (hs : Inv s) (hst : s.st = .hdr) (hlen : s.len = 1)
    (hτ : BeforeDeadline { s with now := τ }) (hb : b ≠ s.reqReg) (hrxq : s.rxq = b :: rest) :
    ∃ t, Advances s τ t ∧ t.st = .sync ∧ t.rxq = rest := by
  obtain ⟨t, ht, hmismatch, -⟩ := stepChecksRegistry { s with now := τ } b rest hst hlen hτ hrxq
  obtain ⟨heq, -⟩ := hmismatch hb
  exact ⟨t, advances_of_step hs ht, by rw [heq], by rw [heq]⟩

/-- R246 to R249: a byte past the registry check. -/
theorem advances_append {f : List Byte} {b n : Byte} (hs : Inv s)
    (hst : (s.st = .hdr ∧ s.len = 2) ∨ s.st = .pay) (hframe : frame s = some f)
    (hτ : BeforeDeadline { s with now := τ }) (hrxq : s.rxq = b :: rest)
    (hthird : ∀ m, (f ++ [b])[2]? = some m → m = n) :
    ∃ t, Advances s τ t ∧ frame t = some (f ++ [b]) ∧ t.rxq = rest ∧ 2 ≤ f.length ∧
      if n.toNat + 2 ≤ f.length + 1 then
        t.st = .idle ∧ t.res = if validate (f ++ [b]) then .ok else .badCksum
      else t.st = .pay := by
  obtain ⟨t, m, ht, hm, hframe', -, heq⟩ := stepAppendsAndCompletes { s with now := τ } f b rest
    (inv_setNow τ hs) hst ((frame_setNow τ s).trans hframe) hτ hrxq
  obtain rfl := hthird m hm
  have hlen : f.length = s.len := (frame_eq_some.mp hframe).1
  have htwo : 2 ≤ f.length := by
    obtain ⟨h, -⟩ := List.getElem?_eq_some_iff.mp hm
    simpa using h
  have hne : f ≠ [] := by rintro rfl; simp at htwo
  refine ⟨t, advances_of_step hs ht, hframe', ?_, htwo, ?_⟩
  · rw [heq]
    split_ifs <;> rfl
  · simp only [validate_append_singleton, hne, ne_eq, not_false_eq_true, true_and, hlen]
    rw [heq]
    by_cases hdone : m.toNat + 2 ≤ s.len + 1
    · rw [if_pos hdone, if_pos hdone]
      exact ⟨rfl, rfl⟩
    · rw [if_neg hdone, if_neg hdone]

end

/-- Two bytes held in `HDR` are the marker and the requested registry. -/
theorem frame_of_registry {s : State} (hs : Inv s) (hst : s.st = .hdr) (hlen : s.len = 2) :
    frame s = some [0x40, s.reqReg] := by
  obtain ⟨f, hf⟩ := exists_holds_of_inv hs
  have hlen' : f.length = 2 := hf.length.trans hlen
  obtain rfl | rfl := (hst ▸ attemptShape_of_inv hs hf).of_hdr
  · simp at hlen'
  · exact hf.frame

/-! ### A frame -/

/-- The attempt for `reg` has ended with the frame `f`, and the bytes `rest` wait behind it. -/
structure Received (reg : Byte) (f rest : List Byte) (t : State) : Prop where
  st : t.st = .idle
  res : t.res = if validate f then .ok else .badCksum
  frame : frame t = some f
  rxq : t.rxq = rest
  reqReg : t.reqReg = reg

/-- Past the registry check, the bytes that are missing from a frame of the length it announces. -/
theorem exists_received_of_pastRegistry {s : State} {f todo rest : List Byte} {n : Byte}
    {times : List (BitVec 32)} (hs : Inv s) (hst : (s.st = .hdr ∧ s.len = 2) ∨ s.st = .pay)
    (hframe : frame s = some f) (hne : todo ≠ []) (hthird : (f ++ todo)[2]? = some n)
    (hlen : (f ++ todo).length = max 3 (n.toNat + 2)) (hrxq : s.rxq = todo ++ rest)
    (hcount : times.length = todo.length) (htimes : InTime s times) :
    ∃ t, stepsAt times s = .next t ∧ Received s.reqReg (f ++ todo) rest t := by
  induction todo generalizing s f times with
  | nil => exact absurd rfl hne
  | cons b todo ih =>
    obtain ⟨τ, times, rfl⟩ := List.exists_of_length_succ times hcount
    have hsplit : f ++ b :: todo = f ++ [b] ++ todo := List.append_cons f b todo
    have hall : (f ++ b :: todo).length = f.length + 1 + todo.length := by
      simp only [List.length_append, List.length_cons]; omega
    have hmiddle (m : Byte) (hm : (f ++ [b])[2]? = some m) : m = n := by
      rw [hsplit, List.getElem?_append_left (List.getElem?_eq_some_iff.mp hm).1, hm] at hthird
      exact Option.some.inj hthird
    obtain ⟨t, ht, hframe', hrest, htwo, hend⟩ :=
      advances_append hs hst hframe (htimes τ List.mem_cons_self) hrxq hmiddle
    rw [ht.stepsAt_cons, ← ht.reqReg, hsplit]
    by_cases hdone : n.toNat + 2 ≤ f.length + 1
    · rw [if_pos hdone] at hend
      obtain ⟨hidle, hres⟩ := hend
      obtain rfl : todo = [] := List.length_eq_zero_iff.mp (by omega)
      obtain rfl : times = [] := List.length_eq_zero_iff.mp (Nat.succ.inj hcount)
      rw [List.append_nil]
      exact ⟨t, rfl, hidle, hres, hframe', hrest, rfl⟩
    · rw [if_neg hdone] at hend
      have hmore : todo ≠ [] := by
        rintro rfl
        rw [List.length_nil] at hall
        omega
      exact ih ht.inv (.inr hend) hframe' hmore (hsplit ▸ hthird) (hsplit ▸ hlen) hrest
        (Nat.succ.inj hcount) (ht.inTime htimes)

/-- From `SYNC`, a frame for the requested registry at the head of the queue. -/
theorem exists_received_of_sync {s : State} {tail rest : List Byte} {n : Byte}
    {times : List (BitVec 32)} (hs : Inv s) (hst : s.st = .sync)
    (hlen : tail.length + 3 = max 3 (n.toNat + 2))
    (hrxq : s.rxq = 0x40 :: s.reqReg :: n :: tail ++ rest) (hcount : times.length = tail.length + 3)
    (htimes : InTime s times) :
    ∃ t, stepsAt times s = .next t ∧
      Received s.reqReg (0x40 :: s.reqReg :: n :: tail) rest t := by
  obtain ⟨τ₁, times, rfl⟩ := List.exists_of_length_succ times hcount
  obtain ⟨τ₂, times, rfl⟩ := List.exists_of_length_succ times (Nat.succ.inj hcount)
  obtain ⟨s₁, h₁, hst₁, hlen₁, hrxq₁⟩ :=
    advances_marker hs hst (htimes τ₁ List.mem_cons_self) hrxq
  have htimes₁ := h₁.inTime htimes
  obtain ⟨s₂, h₂, hst₂, hlen₂, hrxq₂⟩ := advances_registry h₁.inv hst₁ hlen₁
    (htimes₁ τ₂ List.mem_cons_self) (h₁.reqReg ▸ hrxq₁)
  rw [h₁.stepsAt_cons, h₂.stepsAt_cons, ← h₁.reqReg, ← h₂.reqReg]
  exact exists_received_of_pastRegistry (f := [0x40, s₂.reqReg]) (todo := n :: tail) h₂.inv
    (.inl ⟨hst₂, hlen₂⟩) (frame_of_registry h₂.inv hst₂ hlen₂) (List.cons_ne_nil n tail) rfl hlen
    hrxq₂ (Nat.succ.inj (Nat.succ.inj hcount)) (h₂.inTime htimes₁)

/-- Bytes without a marker before the frame are discarded one by one. -/
theorem exists_received_of_noise {s : State} {noise tail rest : List Byte} {n : Byte}
    {times : List (BitVec 32)} (hs : Inv s) (hst : s.st = .sync) (hp : s.params.pErrInSync = false)
    (hnoise : ∀ b ∈ noise, b ≠ 0x40) (hlen : tail.length + 3 = max 3 (n.toNat + 2))
    (hrxq : s.rxq = noise ++ (0x40 :: s.reqReg :: n :: tail) ++ rest)
    (hcount : times.length = noise.length + tail.length + 3) (htimes : InTime s times) :
    ∃ t, stepsAt times s = .next t ∧
      Received s.reqReg (0x40 :: s.reqReg :: n :: tail) rest t := by
  induction noise generalizing s times with
  | nil => exact exists_received_of_sync hs hst hlen hrxq (by simpa using hcount) htimes
  | cons b noise ih =>
    rw [List.length_cons, Nat.succ_add, Nat.succ_add] at hcount
    obtain ⟨τ, times, rfl⟩ := List.exists_of_length_succ times hcount
    obtain ⟨hb, hnoise⟩ := List.forall_mem_cons.mp hnoise
    obtain ⟨t, ht, hst', hrxq'⟩ :=
      advances_discard hs hst hp (htimes τ List.mem_cons_self) hb hrxq
    rw [ht.stepsAt_cons, ← ht.reqReg]
    exact ih ht.inv hst' (ht.params ▸ hp) hnoise (ht.reqReg ▸ hrxq') (Nat.succ.inj hcount)
      (ht.inTime htimes)

/-- Settles O58, from the reception behind noise. -/
theorem frameAfterNoiseIsReceived : Obligations.FrameAfterNoiseIsReceived := by
  intro s noise tail rest n times hs hst hp hnoise hlen hrxq hcount htimes
  obtain ⟨t, ht, hrec⟩ :=
    exists_received_of_noise hs hst hp hnoise hlen hrxq hcount (inTime_of_lt htimes)
  exact ⟨t, ht, hrec.st, hrec.res, hrec.frame, hrec.rxq, hrec.reqReg⟩

/-- Settles O59: the stale marker and registry byte lead back to `SYNC`, where the bytes left of the
stale reply are noise. -/
theorem staleReplyIsRecovered : Obligations.StaleReplyIsRecovered := by
  intro s aa stale tail rest n times hs hst hp haa hstale hlen hvalid hrxq hcount hlt
  have htimes := inTime_of_lt hlt
  obtain ⟨τ₁, times, rfl⟩ := List.exists_of_length_succ times hcount
  obtain ⟨τ₂, times, rfl⟩ := List.exists_of_length_succ times (Nat.succ.inj hcount)
  obtain ⟨s₁, h₁, hst₁, hlen₁, hrxq₁⟩ :=
    advances_marker hs hst (htimes τ₁ List.mem_cons_self) hrxq
  have htimes₁ := h₁.inTime htimes
  obtain ⟨s₂, h₂, hst₂, hrxq₂⟩ := advances_mismatch h₁.inv hst₁ hlen₁
    (htimes₁ τ₂ List.mem_cons_self) (h₁.reqReg ▸ haa) hrxq₁
  have hreg : s₂.reqReg = s.reqReg := h₂.reqReg.trans h₁.reqReg
  have hp₂ : s₂.params.pErrInSync = false := by rw [h₂.params, h₁.params, hp]
  obtain ⟨t, ht, hrec⟩ := exists_received_of_noise h₂.inv hst₂ hp₂ hstale hlen (hreg ▸ hrxq₂)
    (Nat.succ.inj (Nat.succ.inj hcount)) (h₂.inTime htimes₁)
  rw [hreg] at hrec
  refine ⟨t, ?_, hrec.st, ?_, hrec.frame, hrec.rxq⟩
  · rw [h₁.stepsAt_cons, h₂.stepsAt_cons, ht]
  · rw [hrec.res, if_pos hvalid]

end Sys2Proof.Proofs
end

section
/-! # DECODE, the register decode engine (spec/43_decode.md R280 to R289)

In `IDLE` the guards choose between two equations of DECODE (`exec_decode_of_pass`,
`exec_decode_of_fail`). What it writes to an entry is `decodeEntry`, which has an equation for another
registry, for a slice that passes the end of the frame and for one that does not. -/

namespace Sys2Proof.Proofs

open Sys2Proof Sys2Proof.Machine Sys2Proof.Claims

/-! ### The guards -/

theorem decodable_iff (f : List Byte) : decodable f = true ↔ Decodable f := by
  rw [Decodable, ← isValidProtocol_iff, ← isErrorFrame_iff]
  simp only [decodable, Bool.and_eq_true, Bool.not_eq_true', Bool.not_eq_true, decide_eq_true_iff,
    and_assoc]
  rfl

theorem decodable_eq_false_iff (f : List Byte) : decodable f = false ↔ ¬ Decodable f := by
  rw [← decodable_iff, Bool.not_eq_true]

/-- A frame that passes the guards is long enough for its byte 1 to be its registry (R147, R281). -/
theorem getElem?_one_of_decodable {f : List Byte} (h : Decodable f) : f[1]? = some (registryID f) := by
  obtain ⟨-, -, -, hlen⟩ := h
  have hlt : 1 < f.length := by omega
  rw [registryID_eq, List.getElem?_eq_getElem hlt, Option.getD_some]

/-- In `IDLE` the guards decide whether the entries are written (R281). -/
theorem exec_decode_of_frame {s : State} {f : List Byte} (hf : frame s = some f)
    (hidle : s.st = .idle) :
    exec .decode s =
      if decodable f then .next (setDisp (decodeEntries s.params f s.cfg s.disp) s) else .next s :=
  (if_neg (not_not.mpr hidle)).trans (withFrame_of_frame hf _)

theorem exec_decode_of_pass {s : State} {f : List Byte} (hf : frame s = some f)
    (hidle : s.st = .idle) (hd : decodable f = true) :
    exec .decode s = .next (setDisp (decodeEntries s.params f s.cfg s.disp) s) :=
  (exec_decode_of_frame hf hidle).trans (if_pos hd)

theorem exec_decode_of_fail {s : State} {f : List Byte} (hf : frame s = some f)
    (hidle : s.st = .idle) (hd : decodable f = false) : exec .decode s = .next s :=
  (exec_decode_of_frame hf hidle).trans (if_neg (Bool.eq_false_iff.mp hd))

/-- Settles O23: one of the two equations of DECODE in `IDLE`. -/
theorem decodeGuardFailureChangesNothing : Obligations.DecodeGuardFailureChangesNothing :=
  fun _ f hidle hf hd => exec_decode_of_fail hf hidle ((decodable_eq_false_iff f).mpr hd)

/-- The frame a failed attempt leaves fails a guard: it does not validate (R249), it holds nothing
(R242), or it is the error pair (R244). -/
theorem not_decodable_of_failed {s : State} {f : List Byte} (hs : Inv s) (hf : Holds s f)
    (hres : s.res = .badCksum ∨ s.res = .timedOut ∨ s.res = .errorFrame) : ¬ Decodable f := by
  have shape := attemptShape_of_inv hs hf
  rintro ⟨-, hvalid, -, hlen⟩
  obtain hres | hres | hres := hres
  · obtain ⟨g, hg, hinvalid⟩ := hs.badInvalid hres
    obtain rfl : f = g := Option.some.inj (hf.frame.symm.trans hg)
    exact Bool.false_ne_true (hinvalid.symm.trans hvalid)
  · obtain rfl := (hres ▸ shape).of_timedOut
    simp at hlen
  · obtain ⟨-, rfl⟩ := (hres ▸ shape).of_errorFrame
    simp at hlen

/-- Settles O26: an outcome other than `NONE` is recorded in `IDLE`, where its frame fails a guard. -/
theorem decodeAfterFailedAttempt : Obligations.DecodeAfterFailedAttempt := by
  intro s hs hres
  have hended : s.res ≠ .none := by
    obtain h | h | h := hres <;> simp [h]
  have hidle : s.st = .idle := not_not.mp (mt hs.inProgress hended)
  obtain ⟨f, hf⟩ := exists_holds_of_inv hs
  exact decodeGuardFailureChangesNothing s f hidle hf.frame (not_decodable_of_failed hs hf hres)

/-! ### One entry -/

/-- R284: a slice that passes the end of the frame cannot be read. -/
theorem sliceAt_eq_none {f : List Byte} {idx : Nat} {n : ByteCount} (h : f.length < idx + n.toNat) :
    sliceAt f idx n = none := by
  cases n with
  | one =>
    have hend : f[idx]? = none := List.getElem?_eq_none (Nat.le_of_lt_succ h)
    simp only [sliceAt, hend]
  | two =>
    have hend : f[idx + 1]? = none := List.getElem?_eq_none (Nat.le_of_lt_succ h)
    cases hfirst : f[idx]? <;> simp only [sliceAt, hfirst, hend]

theorem sliceAt_one {f : List Byte} {idx : Nat} {s0 : Byte} (h0 : f[idx]? = some s0) :
    sliceAt f idx .one = some (.one s0) := by
  simp only [sliceAt, h0]

theorem sliceAt_two {f : List Byte} {idx : Nat} {s0 s1 : Byte} (h0 : f[idx]? = some s0)
    (h1 : f[idx + 1]? = some s1) : sliceAt f idx .two = some (.two s0 s1) := by
  simp only [sliceAt, h0, h1]

section

variable {p : Config.Params} {f : List Byte} {d : RegDef}

/-- R282: an entry of another registry stays. -/
theorem decodeEntry_of_ne (old : Str) (h : d.registryID ≠ registryID f) :
    decodeEntry p f d old = old := if_pos h

/-- R283, R284. -/
theorem decodeEntry_of_no_slice (old : Str) (h : d.registryID = registryID f)
    (hslice : sliceAt f (3 + d.offset.toNat) d.byteCount = none) : decodeEntry p f d old = [] := by
  rw [decodeEntry, if_neg (not_not.mpr h), Config.payloadBase, hslice]

/-- R285. -/
theorem decodeEntry_of_slice (old : Str) {sl : Slice} (h : d.registryID = registryID f)
    (hslice : sliceAt f (3 + d.offset.toNat) d.byteCount = some sl) :
    decodeEntry p f d old = convert p d.conversionCode sl := by
  rw [decodeEntry, if_neg (not_not.mpr h), Config.payloadBase, hslice]

end

/-- Settles O24: the entry of a definition becomes `decodeEntry` of its old value, whose equations are
the four clauses. -/
theorem decodeWritesMatchingEntries : Obligations.DecodeWritesMatchingEntries := by
  intro s f hidle hf hd
  have hlen : f.length = s.len := (frame_eq_some.mp hf).1
  refine ⟨_, exec_decode_of_pass hf hidle ((decodable_iff f).mpr hd), rfl,
    decodeEntries_length _ f s.cfg s.disp, fun i d v hcfg hdisp => ?_⟩
  have hentry := decodeEntries_getElem? (p := s.params) (f := f) hcfg hdisp
  rw [setDisp_disp, hentry, getElem?_one_of_decodable hd, Ne, Option.some_inj]
  refine ⟨fun hne => ?other, fun heq hpast => ?past, fun s0 heq hone h0 => ?one,
    fun s0 s1 heq htwo h0 h1 => ?two⟩
  case other => rw [decodeEntry_of_ne v hne]
  case past => rw [decodeEntry_of_no_slice v heq (sliceAt_eq_none (hlen ▸ hpast))]
  case one => rw [decodeEntry_of_slice v heq (hone ▸ sliceAt_one h0)]
  case two => rw [decodeEntry_of_slice v heq (htwo ▸ sliceAt_two h0 h1)]

/-! ### DECODE run twice -/

/-- The new value of an entry does not depend on the old one where it is written, and is the old one
where it is not. -/
theorem decodeEntry_decodeEntry (p : Config.Params) (f : List Byte) (d : RegDef) (old : Str) :
    decodeEntry p f d (decodeEntry p f d old) = decodeEntry p f d old := by
  by_cases h : d.registryID = registryID f
  · cases hslice : sliceAt f (3 + d.offset.toNat) d.byteCount with
    | none => rw [decodeEntry_of_no_slice _ h hslice, decodeEntry_of_no_slice _ h hslice]
    | some sl => rw [decodeEntry_of_slice _ h hslice, decodeEntry_of_slice _ h hslice]
  · rw [decodeEntry_of_ne _ h]

theorem decodeEntries_decodeEntries (p : Config.Params) (f : List Byte) (ds : List RegDef)
    (vs : List Str) :
    decodeEntries p f ds (decodeEntries p f ds vs) = decodeEntries p f ds vs := by
  induction ds generalizing vs with
  | nil => rfl
  | cons d ds ih =>
    cases vs with
    | nil => rfl
    | cons v vs => simp only [decodeEntries, decodeEntry_decodeEntry, ih]

theorem raiseFault_raiseFault (c : FCause) (s : State) :
    raiseFault c (raiseFault c s) = raiseFault c s :=
  if_pos (raiseFault_fault c s)

theorem frame_setDisp (x : List Str) (s : State) : frame (setDisp x s) = frame s :=
  frame_congr rfl rfl

/-- Settles O25: the second DECODE meets the same guards on the same frame, and rewrites each entry with
what it holds. -/
theorem decodeIsIdempotent : Obligations.DecodeIsIdempotent := by
  intro s t h
  obtain ⟨hbusy, rfl⟩ | ⟨hidle, f, hf, ⟨hd, rfl⟩ | ⟨-, rfl⟩⟩ := execDecode_next h
  · rw [exec_decode_of_busy (by rwa [raiseFault_st]), ← raiseFault_eq_refused, raiseFault_raiseFault]
  · have hf' : frame (setDisp (decodeEntries s.params f s.cfg s.disp) s) = some f :=
      (frame_setDisp _ s).trans hf
    rw [exec_decode_of_pass hf' hidle hd, setDisp_params, setDisp_cfg, setDisp_disp,
      decodeEntries_decodeEntries]
    rfl
  · exact h

/-! ### The mode of a definition -/

/-- The definitions with one mode for all. -/
def withMode (m : Byte) (ds : List RegDef) : List RegDef := ds.map fun d => { d with mode := m }

/-- R289. -/
theorem decodeEntries_withMode (p : Config.Params) (f : List Byte) (m : Byte) (ds : List RegDef)
    (vs : List Str) : decodeEntries p f (withMode m ds) vs = decodeEntries p f ds vs := by
  induction ds generalizing vs with
  | nil => rfl
  | cons d ds ih =>
    cases vs with
    | nil => rfl
    | cons v vs => exact congrArg (decodeEntry p f d v :: ·) (ih vs)

/-- The frame held does not depend on the configuration. -/
theorem frame_setCfg (ds : List RegDef) (s : State) : frame { s with cfg := ds } = frame s :=
  frame_congr rfl rfl

/-- Settles O27: the refusal and the guards do not see the configuration, and the new entries do not see
its modes. -/
theorem decodeIgnoresMode : Obligations.DecodeIgnoresMode := by
  intro s t m h
  change exec .decode { s with cfg := withMode m s.cfg } = .next { t with cfg := withMode m s.cfg }
  obtain ⟨hbusy, rfl⟩ | ⟨hidle, f, hf, hcases⟩ := execDecode_next h
  · rw [raiseFault_eq_refused]
    exact exec_decode_of_busy hbusy
  · have hf' := (frame_setCfg (withMode m s.cfg) s).trans hf
    obtain ⟨hd, rfl⟩ | ⟨hd, rfl⟩ := hcases
    · rw [exec_decode_of_pass hf' hidle hd, decodeEntries_withMode]
      rfl
    · exact exec_decode_of_fail hf' hidle hd

end Sys2Proof.Proofs
end

section
/-! # The first fault cause (spec/60_exceptions.md R302, spec/70_reset_and_hazards.md R330)

Only a refusal writes `fault` and `fcause` between resets, and a refusal after a refusal writes nothing
(`raiseFault_again`). So once the fault is set, whatever else an instruction or an event does, `FaultKept`
relates the two states. -/

namespace Sys2Proof.Proofs

open Sys2Proof Sys2Proof.Machine

/-- The fault record is the same in `s` and `t`. -/
structure FaultKept (s t : State) : Prop where
  fault : t.fault = s.fault
  fcause : t.fcause = s.fcause

theorem FaultKept.rfl {s : State} : FaultKept s s := by constructor <;> rfl

/-- R302: a later refusal leaves the first cause. -/
theorem faultKept_raiseFault {s : State} (c : FCause) (hs : s.fault = true) :
    FaultKept s (raiseFault c s) := by
  rw [raiseFault_again c s hs]
  exact .rfl

/-! ### The instructions -/

/-- STEP never refuses, so it keeps the record in every state. -/
theorem execStep_faultKept {s t : State} (h : execStep s = .next t) : FaultKept s t := by
  obtain ⟨-, -, hfault, hfcause, -⟩ := exec_step_kept h
  exact ⟨hfault, hfcause⟩

theorem execRequest_faultKept {reg : Byte} {s t : State} (hs : s.fault = true)
    (h : execRequest reg s = .next t) : FaultKept s t := by
  obtain ⟨_, rfl⟩ | ⟨_, rfl⟩ := execRequest_next h
  · exact faultKept_raiseFault _ hs
  · constructor <;> simp

theorem execDecode_faultKept {s t : State} (hs : s.fault = true) (h : execDecode s = .next t) :
    FaultKept s t := by
  obtain ⟨_, rfl⟩ | ⟨_, _, _, ⟨_, rfl⟩ | ⟨_, rfl⟩⟩ := execDecode_next h
  · exact faultKept_raiseFault _ hs
  · constructor <;> simp
  · exact .rfl

theorem exec_faultKept {i : Instr} {s t : State} (hs : s.fault = true) (h : exec i s = .next t) :
    FaultKept s t := by
  obtain ⟨_, hstep⟩ | ⟨_, _, hrequest⟩ | ⟨_, hdecode⟩ | rfl | ⟨_, rfl⟩ := exec_next h
  · exact execStep_faultKept hstep
  · exact execRequest_faultKept hs hrequest
  · exact execDecode_faultKept hs hdecode
  · exact faultKept_raiseFault _ hs
  · constructor <;> simp

/-! ### The moves of the environment -/

/-- R330: an event that is not a reset keeps the record. The two events that run an instruction first
write fields outside it. -/
theorem runEvent_faultKept {e : Event} {s t : State} (hs : s.fault = true) (hreset : e ≠ .reset)
    (h : runEvent e s = .next t) : FaultKept s t := by
  cases e with
  | command w τ =>
    obtain ⟨hfault, hfcause⟩ := exec_faultKept (s := present τ s) hs h
    exact ⟨hfault, hfcause⟩
  | rx bytes =>
    cases h
    constructor <;> simp
  | reset => exact absurd rfl hreset
  | boot p rs =>
    obtain ⟨_, _, _, _, rfl⟩ := boot_next h
    constructor <;> simp
  | read port =>
    rw [hostRead_next h]
    constructor <;> simp
  | convert code sl =>
    obtain ⟨hfault, hfcause⟩ := exec_faultKept (s := setConvIn sl s) hs h
    exact ⟨hfault, hfcause⟩

theorem step_faultKept {s t : State} (hs : s.fault = true) (hreset : ∀ rest, s.input ≠ .reset :: rest)
    (h : step s = .next t) : FaultKept s t := by
  cases hin : s.input with
  | nil =>
    rw [step_of_no_input hin] at h
    cases h
    exact .rfl
  | cons e rest =>
    rw [step_of_event hin] at h
    have he : e ≠ .reset := fun heq => hreset rest (heq ▸ hin)
    obtain ⟨hfault, hfcause⟩ := runEvent_faultKept (s := setInput rest s) hs he h
    exact ⟨hfault, hfcause⟩

/-- Settles O12: a fault record that is kept is kept set. -/
theorem firstFaultCauseIsKept : Obligations.FirstFaultCauseIsKept := by
  intro s t hs
  have kept_set (hkept : FaultKept s t) : t.fault = true ∧ t.fcause = s.fcause :=
    ⟨hkept.fault.trans hs, hkept.fcause⟩
  exact ⟨fun _ h => kept_set (exec_faultKept hs h),
    fun hreset h => kept_set (step_faultKept hs hreset h)⟩

end Sys2Proof.Proofs
end
